-- ==== Sys2Proof/Word.lean ====
section
/-! DEFINITION. The word types of the CORE. Every value is unsigned and bit 0 is the least significant
bit (R11); the widths are those of R61. -/

namespace Sys2Proof

/-- Eight bits: a history, a layout code, the modifier mask, the lock byte. -/
abbrev Byte := BitVec 8

/-- A key index, `KIDXW` = 8 bits (R8, R51). -/
abbrev KeyIndex := BitVec 8

/-- A queue slot, 8 bits: a key index or `EMPTY` (R78). -/
abbrev Slot := BitVec 8

/-- A grayscale word, 12 bits (R82). -/
abbrev Gray := BitVec 12

/-- The content of the LED chain, 24 × 12 bits (R83, R193). -/
abbrev ChainWord := BitVec 288

end Sys2Proof
end

