-- ==== Sys2Proof/Config.lean ====
section
/-! DEFINITION. What is fixed at build time: the parameters of R8 and R9, and the free values, which are
uninterpreted constants (no proof can see them). -/

namespace Sys2Proof

/-- `EMPTY`, the marker of an unused queue slot (R8, R78; D4). -/
def emptySlot : Slot := 0xFF#8

/-- What a seventh simultaneous non-modifier press does (R8, R24, R124; D9). -/
inductive OverflowPolicy where
  /-- the oldest entry is pushed out: the behaviour of the spec (R123) -/
  | evictOldest
  /-- the new key never enters a full queue (R124) -/
  | rejectNewest
  /-- the seventh-oldest key waits, unreported, in the spare slot (R124) -/
  | parkInSpare
  deriving DecidableEq, Repr, Inhabited

/-- A layout entry, format LE (R9, R79): for a modifier key `code` is ORed into the modifier mask, for any
other key it is the keycode of the report. -/
structure LayoutEntry where
  isModifier : Bool
  code : Byte
  deriving DecidableEq, Repr, Inhabited

/-- The build-time parameters (R8). The number of keys is N = ROWS × COLS, and 1 ≤ N ≤ 255 by construction (R10,
R215; a board with no key or with more keys is not admitted, U18): COLS is at most 255 div ROWS. -/
structure Params where
  /-- ROWS − 1 -/
  lastRow : Fin 255
  /-- COLS − 1, below 255 div ROWS -/
  lastCol : Fin ((254 - lastRow.val) / (lastRow.val + 1) + 1)
  /-- one entry per key, in scan order (R9, R213) -/
  layout : Vector LayoutEntry ((lastRow.val + 1) * (lastCol.val + 1))
  /-- SENSE_INVERT: the board inverts the sense line; default 0 (R8, R16; D5) -/
  senseInvert : Bool := false
  /-- LOAD_ACTIVE: the level of SR_LOAD that is `ASSERT` (D16) -/
  loadActive : Bool
  /-- SRCLK_ACTIVE: the level of SR_CLK that is `ASSERT` (D16) -/
  srclkActive : Bool
  /-- LED_EN_ACTIVE: the level of LED_EN that is `ASSERT` (D15) -/
  ledEnActive : Bool
  /-- OVERFLOW_POLICY (D9) -/
  overflowPolicy : OverflowPolicy
  /-- T_SETTLE: no rule depends on its value (R8; D23) -/
  tSettle : Nat
  /-- TMR_PRESCALE: no rule depends on its value (R8, R28; D23) -/
  tmrPrescale : Nat
  /-- TMR_COMPARE: no rule depends on its value (R8, R28; D23) -/
  tmrCompare : Nat
  deriving DecidableEq, Repr, Inhabited

/-- ROWS (R8). -/
def Params.rows (p : Params) : Nat := p.lastRow.val + 1

/-- COLS (R8). -/
def Params.cols (p : Params) : Nat := p.lastCol.val + 1

/-- N, the number of keys, "matrix_rows × matrix_cols" (R8). Nothing but this product reads ROWS and COLS. -/
def Params.n (p : Params) : Nat := p.rows * p.cols

/-- Is `k` a key index, k < N (R51)? Key 0 always is one, since 1 ≤ N. -/
def Params.hasKey (p : Params) (k : KeyIndex) : Bool :=
  k == 0#8 || decide (k.toNat < p.n)

/-- `Layout(k)`, for k < N only (R9, R54). -/
def Params.entry? (p : Params) (k : KeyIndex) : Option LayoutEntry := p.layout[k.toNat]?

/-- The parameters the board fixes and the spec leaves OPEN (R8), with no value (log entry 3). -/
opaque Config.board : Params

/-- The parameters of the machine after reset: the board's, with the two values R8 gives: the default 0 of SENSE_INVERT
(D5) and the overflow policy EVICT_OLDEST (D9). Other values are reached by `State.resetWith` (log entry 3). -/
def Config.params : Params := { Config.board with senseInvert := false, overflowPolicy := .evictOldest }

/-- FREE VALUE: a sample of the sense line the environment has not given (R16, R184, U27), and the level of a
pin the spec leaves at any level (R201, U13). Log entries 4 and 8. -/
opaque Config.freeBit : Nat → Bool

/-- FREE VALUE: a lock byte the host has not given (R16, R57). Log entry 4. -/
opaque Config.freeLock : Nat → Byte

/-- FREE VALUE: whether a period event arrives when the environment has not said (R161). Log entry 4. -/
opaque Config.freeTick : Nat → Bool

/-- FREE VALUE: the content of a register of the LED chain after the RESET event (R201, U26). Log entry 8. -/
opaque Config.freeChain : Nat → ChainWord

end Sys2Proof
end

