-- ==== Sys2Proof/Syntax.lean ====
section
/-! DEFINITION. The operations of the CORE: one constructor per row of spec/opcode_table.json (R90). `k` is a
key index, `c` a channel and `b` a bit of it (R50, R90). -/

namespace Sys2Proof

/-- The 22 operations and RESET (R90). -/
inductive Instr where
  /-- SMP.LATCH (R101) -/
  | smpLatch
  /-- SMP.READ k (R102) -/
  | smpRead (k : KeyIndex)
  /-- SMP.SNAPSHOT (R103) -/
  | smpSnapshot
  /-- DBN.PRESS_EDGE k (R105) -/
  | dbnPressEdge (k : KeyIndex)
  /-- DBN.RELEASE_EDGE k (R106) -/
  | dbnReleaseEdge (k : KeyIndex)
  /-- DBN.HOLD k (R107) -/
  | dbnHold (k : KeyIndex)
  /-- DBN.SHIFT k (R108) -/
  | dbnShift (k : KeyIndex)
  /-- DBN.EVAL (R109). DEDUCED: no operand, the loop over all keys, as R109 and the opcode table give it; R90's map writes
  it with a k (log entry 21) -/
  | dbnEval
  /-- KEV.PRESS_KEY k (R123) -/
  | kevPressKey (k : KeyIndex)
  /-- KEV.PRESS_MOD k (R122) -/
  | kevPressMod (k : KeyIndex)
  /-- KEV.RELEASE_KEY k (R126) -/
  | kevReleaseKey (k : KeyIndex)
  /-- KEV.RELEASE_MOD k (R125) -/
  | kevReleaseMod (k : KeyIndex)
  /-- RPT.SEND (R128) -/
  | rptSend
  /-- LED.UPDATE (R141) -/
  | ledUpdate
  /-- LED.BIT c, b (R142) -/
  | ledBit (c : Fin 24) (b : Fin 12)
  /-- LED.COMMIT (R143) -/
  | ledCommit
  /-- LED.FRAME (R144) -/
  | ledFrame
  /-- TMR.FIRE (R162) -/
  | tmrFire
  /-- TMR.DISABLE (R163) -/
  | tmrDisable
  /-- TMR.ENABLE (R164) -/
  | tmrEnable
  /-- SCAN (R166) -/
  | scan
  /-- IDLE (R168) -/
  | idle
  /-- RESET (R200) -/
  | reset
  deriving DecidableEq, Repr

end Sys2Proof
end

