-- ==== Sys2Proof/WellFormed.lean ====
section
/-! DEFINITION. Which operations exist for a given board: the operand lines of the operation rules. Channel and
bit numbers are in range by their types (R60); a key index must be below N (R51, R54), and a dispatcher
operation takes a key of its own kind (R122, R123, R125, R126). -/

namespace Sys2Proof

/-- The key exists and its layout entry says `isModifier = m` (format DS, R85). -/
def Params.keyOfKind (p : Params) (k : KeyIndex) (m : Bool) : Bool :=
  (p.entry? k).any fun e => e.isModifier == m

/-- The operand conditions of each operation on the board `p`. -/
def Instr.wf (p : Params) : Instr → Bool
  | .smpRead k => p.hasKey k
  | .dbnPressEdge k => p.hasKey k
  | .dbnReleaseEdge k => p.hasKey k
  | .dbnHold k => p.hasKey k
  | .dbnShift k => p.hasKey k
  | .kevPressKey k => p.keyOfKind k false
  | .kevPressMod k => p.keyOfKind k true
  | .kevReleaseKey k => p.keyOfKind k false
  | .kevReleaseMod k => p.keyOfKind k true
  | .smpLatch => true
  | .smpSnapshot => true
  | .dbnEval => true
  | .rptSend => true
  | .ledUpdate => true
  | .ledBit _ _ => true
  | .ledCommit => true
  | .ledFrame => true
  | .tmrFire => true
  | .tmrDisable => true
  | .tmrEnable => true
  | .scan => true
  | .idle => true
  | .reset => true

end Sys2Proof
end

