-- ==== Sys2Proof/Decode.lean ====
section
/-! DEFINITION. Decoding and encoding. The CORE decodes no instruction word (R75): an operation is selected by a
select word of one of the formats PH, CW, DS, TS, EV (R77, R85, R86, R87, R90), by its position in its phase and
by loop indices, which are "not part of any select word" (R90). An OPERATION IMAGE writes all of these down in
six bytes (log entry 5):

  byte 0  the format: 0 PH, 1 CW, 2 DS, 3 TS, 4 EV
  byte 1  the select word, bits 7..0;  byte 2  its bits 15..8
  byte 3  the position in the phase (format PH only, else 0): 0 is the operation that is the whole phase
  byte 4  the key k or the channel c (else 0);  byte 5  the bit b (else 0)

Every byte an operation does not use must be 0; what is no image is refused by name. -/

namespace Sys2Proof

/-- Why bytes are no operation image. -/
inductive DecodeError where
  /-- fewer than six bytes -/
  | truncated
  /-- byte 0 names no format of R75 -/
  | badFormat
  /-- a phase select 101, 110 or 111, which never occurs (R86, U19) -/
  | reservedPhase
  /-- a select word with bits above its format's width, or EV = 0, which is no event -/
  | badSelect
  /-- no operation stands at this position of the phase (R90) -/
  | badPosition
  /-- a channel above 23 or a bit above 11 (R53, R60) -/
  | badOperand
  /-- a byte the operation does not use is not 0 -/
  | unusedByte
  deriving DecidableEq, Repr

/-- An operation that uses neither byte 4 nor byte 5. -/
def plainOperation (i : Instr) (x y : Byte) : Except DecodeError Instr :=
  if x = 0#8 ∧ y = 0#8 then .ok i else .error .unusedByte

/-- An operation on a key: byte 4 is k. -/
def keyOperation (f : KeyIndex → Instr) (x y : Byte) : Except DecodeError Instr :=
  if y = 0#8 then .ok (f x) else .error .unusedByte

/-- LED.BIT: byte 4 is the channel, byte 5 the bit (R142). -/
def bitOperation (x y : Byte) : Except DecodeError Instr :=
  if hc : x.toNat < 24 then
    if hb : y.toNat < 12 then .ok (.ledBit ⟨x.toNat, hc⟩ ⟨y.toNat, hb⟩) else .error .badOperand
  else .error .badOperand

/-- Format PH (R86), with the position in the phase (R90). -/
def decodePhase (sel : BitVec 16) (pos x y : Byte) : Except DecodeError Instr :=
  match sel.toNat, pos.toNat with
  | 0, 0 => plainOperation .idle x y
  | 0, 1 => plainOperation .tmrDisable x y
  | 0, 2 => plainOperation .tmrEnable x y
  | 1, 0 => plainOperation .smpSnapshot x y
  | 1, 1 => plainOperation .smpLatch x y
  | 1, 2 => keyOperation .smpRead x y
  | 2, 0 => plainOperation .dbnEval x y
  | 2, 1 => keyOperation .dbnShift x y
  | 3, 0 => plainOperation .rptSend x y
  | 4, 0 => plainOperation .ledFrame x y
  | 4, 1 => plainOperation .ledUpdate x y
  | 4, 2 => bitOperation x y
  | 4, 3 => plainOperation .ledCommit x y
  | w, _ =>
    if w < 5 then .error .badPosition
    else if w < 8 then .error .reservedPhase
    else .error .badSelect

/-- Format CW (R77): the two patterns select an edge, each of the other 510 words selects DBN.HOLD (R91). -/
def decodeComparator (sel : BitVec 16) (x y : Byte) : Except DecodeError Instr :=
  if sel.toNat < 512 then
    if sel = 0x07F#16 then keyOperation .dbnPressEdge x y
    else if sel = 0x180#16 then keyOperation .dbnReleaseEdge x y
    else keyOperation .dbnHold x y
  else .error .badSelect

/-- Format DS (R85): `{e, m}`. -/
def decodeDispatch (sel : BitVec 16) (x y : Byte) : Except DecodeError Instr :=
  match sel.toNat with
  | 0 => keyOperation .kevPressKey x y
  | 1 => keyOperation .kevPressMod x y
  | 2 => keyOperation .kevReleaseKey x y
  | 3 => keyOperation .kevReleaseMod x y
  | _ => .error .badSelect

/-- Format TS (R87): 11 selects TMR.FIRE and, at position 1, the SCAN it calls; the other three words start no
scan and are IDLE (01 is a lost event, 10 and 00 are no event). -/
def decodeTimer (sel : BitVec 16) (pos x y : Byte) : Except DecodeError Instr :=
  match sel.toNat, pos.toNat with
  | 3, 0 => plainOperation .tmrFire x y
  | 3, 1 => plainOperation .scan x y
  | 0, 0 => plainOperation .idle x y
  | 1, 0 => plainOperation .idle x y
  | 2, 0 => plainOperation .idle x y
  | w, _ => if w < 4 then .error .badPosition else .error .badSelect

/-- Format EV: one bit, the RESET event itself (R90). -/
def decodeEvent (sel : BitVec 16) (x y : Byte) : Except DecodeError Instr :=
  if sel = 1#16 then plainOperation .reset x y else .error .badSelect

/-- The six bytes of one image. -/
def decodeImage (f : Byte) (sel : BitVec 16) (pos x y : Byte) : Except DecodeError Instr :=
  match f.toNat with
  | 0 => decodePhase sel pos x y
  | 1 => if pos = 0#8 then decodeComparator sel x y else .error .unusedByte
  | 2 => if pos = 0#8 then decodeDispatch sel x y else .error .unusedByte
  | 3 => decodeTimer sel pos x y
  | 4 => if pos = 0#8 then decodeEvent sel x y else .error .unusedByte
  | _ => .error .badFormat

/-- Decode the image at the head of a list of bytes; the rest of the list is handed back. -/
def decode : List Byte → Except DecodeError (Instr × List Byte)
  | f :: lo :: hi :: pos :: x :: y :: rest =>
    match decodeImage f (hi ++ lo) pos x y with
    | .ok i => .ok (i, rest)
    | .error e => .error e
  | _ => .error .truncated

/-- An image from its parts. -/
def imageOf (f : Byte) (sel : BitVec 16) (pos x y : Byte) : List Byte :=
  [f, sel.extractLsb' 0 8, sel.extractLsb' 8 8, pos, x, y]

/-- The image of an operation, from the select words of R90. DBN.HOLD takes the comparator word 0 and IDLE the
phase word 000, one each of the words that select them. -/
def encode : Instr → List Byte
  | .idle => imageOf 0 0b000 0 0 0
  | .tmrDisable => imageOf 0 0b000 1 0 0
  | .tmrEnable => imageOf 0 0b000 2 0 0
  | .smpSnapshot => imageOf 0 0b001 0 0 0
  | .smpLatch => imageOf 0 0b001 1 0 0
  | .smpRead k => imageOf 0 0b001 2 k 0
  | .dbnEval => imageOf 0 0b010 0 0 0
  | .dbnShift k => imageOf 0 0b010 1 k 0
  | .rptSend => imageOf 0 0b011 0 0 0
  | .ledFrame => imageOf 0 0b100 0 0 0
  | .ledUpdate => imageOf 0 0b100 1 0 0
  | .ledBit c b => imageOf 0 0b100 2 (BitVec.ofNat 8 c.val) (BitVec.ofNat 8 b.val)
  | .ledCommit => imageOf 0 0b100 3 0 0
  | .dbnPressEdge k => imageOf 1 0b001111111 0 k 0
  | .dbnReleaseEdge k => imageOf 1 0b110000000 0 k 0
  | .dbnHold k => imageOf 1 0 0 k 0
  | .kevPressKey k => imageOf 2 0b00 0 k 0
  | .kevPressMod k => imageOf 2 0b01 0 k 0
  | .kevReleaseKey k => imageOf 2 0b10 0 k 0
  | .kevReleaseMod k => imageOf 2 0b11 0 k 0
  | .tmrFire => imageOf 3 0b11 0 0 0
  | .scan => imageOf 3 0b11 1 0 0
  | .reset => imageOf 4 1 0 0 0

/-- The timer's select word as an image (R87): `a` = tmr_en, `t` = a period event arrives. -/
def timerImage (a t : Bool) : List Byte :=
  imageOf 3 ((BitVec.ofBool a ++ BitVec.ofBool t).setWidth 16) 0 0 0

/-- Which format a word of `nbits` bits of spec/opcode_table.json is read in: the widths 1, 2, 3 and 9 are those
of EV, DS (TS has the same width), PH and CW; in whole bytes, 16 bits are CW and 8 bits are read as PH, the format
of most rows (log entry 6). -/
def formatOfWidth (nbits : Nat) : Byte :=
  match nbits with
  | 1 => 4
  | 2 => 2
  | 9 => 1
  | 16 => 1
  | _ => 0

/-- The image of a table word: the select word, and zeros above it. -/
def tableImage (nbits w : Nat) : List Byte :=
  if w < 65536 then imageOf (formatOfWidth nbits) (BitVec.ofNat 16 w) 0 0 0 else []

/-- The operation the decoder reads from a word of the opcode table. -/
def decodeTableWord (nbits w : Nat) : Option Instr :=
  match decode (tableImage nbits w) with
  | .ok (i, _) => some i
  | .error _ => none

end Sys2Proof
end

