-- ==== Sys2Proof/Machine/State.lean ====
section
/-! DEFINITION. The state of the CORE (R20), the devices at its pins (R35, R192, R193), its inputs and its
outputs (R18), as plain data; and the state after reset (R200, R201). -/

namespace Sys2Proof.Machine

/-- The sequencer's position (R33). The values 5 to 7 are never taken, so they are not there (U19). -/
inductive Phase where
  | idle
  | sample
  | filter
  | dispatch
  | led
  deriving DecidableEq, Repr

/-- `phase` as the 3-bit number of R86. -/
def Phase.bits : Phase → BitVec 3
  | .idle => 0b000#3
  | .sample => 0b001#3
  | .filter => 0b010#3
  | .dispatch => 0b011#3
  | .led => 0b100#3

/-- What the filter emits for one key in one scan (R26, R104). -/
inductive Edge where
  | none
  | press
  | release
  deriving DecidableEq, Repr

/-- The rollover queue, seven 8-bit slots, `q0` the front and `q6` the spare slot (R23, R24). -/
structure Queue where
  q0 : Slot
  q1 : Slot
  q2 : Slot
  q3 : Slot
  q4 : Slot
  q5 : Slot
  q6 : Slot
  deriving DecidableEq, Repr

/-- The six output pins (R29, R55). -/
inductive Pin where
  | srLoad
  | srClk
  | ledData
  | ledClk
  | ledLatch
  | ledEn
  deriving DecidableEq, Repr

/-- The electrical level last driven on each output pin (R29). -/
structure Pins where
  srLoad : Bool
  srClk : Bool
  ledData : Bool
  ledClk : Bool
  ledLatch : Bool
  ledEn : Bool
  deriving DecidableEq, Repr

/-- A report, format RP (R80): the modifier mask and six keycodes, `keys[0]` from the front of the queue. -/
structure Report where
  modMask : Byte
  keys : Vector Byte 6
  deriving DecidableEq, Repr

/-- One output of the CORE: a pin write or a delay (the pin trace), or a report (the report trace) (R16, R18). -/
inductive Output where
  | pin (p : Pin) (level : Bool)
  | delay
  | report (r : Report)
  deriving DecidableEq, Repr

/-- What reaches the CORE between two steps (R55): nothing, a period event on TICK, or the RESET event. -/
inductive Event where
  | quiet
  | tick
  | reset
  deriving DecidableEq, Repr

/-- The state. The CORE's own is everything down to `pins` (R20, R26); then the output trace (R34), the devices
(R35), the inputs to come (log entry 4) and the model's operation port (log entry 5). -/
structure State where
  /-- build-time parameters, never written (R6, R8, R9) -/
  cfg : Params
  /-- `hist[k]`: bounce history (R21) -/
  hist : List Byte
  /-- `pressed[k]`: last confirmed state (R22) -/
  pressed : List Bool
  /-- `edge[k]`: the edges of this scan, transient (R26) -/
  edge : List Edge
  /-- `q[0..6]`: the rollover queue (R23) -/
  q : Queue
  /-- `mod`: the modifier mask (R25) -/
  modMask : Byte
  /-- `gs[0..23]`: the grayscale buffer (R31) -/
  gs : Vector Gray 24
  /-- `tmr_en`: the timer's repeat is enabled (R27) -/
  tmrEn : Bool
  /-- `phase`: the sequencer's position (R33) -/
  phase : Phase
  /-- the output pins (R29) -/
  pins : Pins
  /-- everything the CORE has put out, newest first (R18, R34) -/
  trace : List Output
  /-- the LED chain's shift register `SR` (R193) -/
  ledSr : ChainWord
  /-- the LED chain's output register `OUT` (R193) -/
  ledOut : ChainWord
  /-- the matrix chain: sense levels still in it, the one on the sense line first (R35, R192) -/
  chain : List Bool
  /-- matrix snapshots to come, one per load, each from key 0 up (R192) -/
  snapshots : List (List Bool)
  /-- lock bytes to come, one per read (R57) -/
  locks : List Byte
  /-- events to come, one per step (R55) -/
  events : List Event
  /-- operation images offered from outside; empty on the hardware -/
  opPort : List Byte
  /-- how many free values have been drawn -/
  draws : Nat
  deriving DecidableEq, Repr

/-- The CORE raises no exception and has no fault (R180): there is nothing to raise. -/
inductive Fault where
  deriving DecidableEq, Repr

/-- Why a step is refused: states and operands the spec does not admit. All are safe: the model stops where the
spec gives the hardware no behaviour. -/
inductive Refusal where
  /-- raised by `exec` for an operation that has no meaning yet; safe -/
  | notModelled (mnemonic : String)
  /-- raised by `step` for offered bytes that are no operation image (R75, U19); safe -/
  | notAnImage (e : DecodeError)
  /-- raised by the operations on a key: k is not below N, an index that is never formed (R54, R60); safe -/
  | keyOutOfRange
  /-- raised by the dispatcher operations: the key's layout entry is of the other kind, a selection that is never
  formed (R85, R121 and the operand lines of R122, R123, R125, R126); safe -/
  | keyOfOtherKind
  /-- raised by RPT.SEND and what calls it: a reported slot holds N to 0xFE, "treat as refused" (R92, U9); safe -/
  | slotOutOfRange
  deriving DecidableEq, Repr

/-- Every slot `EMPTY` (R23, R200). -/
def Queue.empty : Queue :=
  ⟨emptySlot, emptySlot, emptySlot, emptySlot, emptySlot, emptySlot, emptySlot⟩

/-- The state after reset of a board with parameters `p` (R200, R201). The spec leaves the five driven pins and the
LED chain at any value: they are low and zero here (DESIGN CHOICE, log entries 1 and 2; unsafe). -/
def State.resetWith (p : Params) : State where
  cfg := p
  hist := List.replicate p.n 0x00#8
  pressed := List.replicate p.n false
  edge := List.replicate p.n .none
  q := Queue.empty
  modMask := 0x00#8
  gs := Vector.replicate 24 0x000#12
  tmrEn := true
  phase := .idle
  pins := ⟨false, false, false, false, false, p.ledEnActive⟩
  trace := []
  ledSr := 0#288
  ledOut := 0#288
  chain := []
  snapshots := []
  locks := []
  events := []
  opPort := []
  draws := 0

/-- The machine right after reset (R200, R203). -/
def State.reset : State := State.resetWith Config.params

end Sys2Proof.Machine
end

