-- ==== Sys2Proof/Machine/Operands.lean ====
section
/-! DEFINITION. Operand assembly (R89): how a sample enters a history, how a history is aged, which slots an
insertion and a removal leave, what a slot shows in a report, what a lock bit drives, and the order of the bits of
a frame. -/

namespace Sys2Proof.Machine

/-! ### The history (R76, R89) -/

/-- R89 (a): the sample bit enters bit 0, by OR. -/
def addSample (hist : Byte) (s : Bool) : Byte := hist ||| (BitVec.ofBool s).setWidth 8

/-- R89 (b): bit 7 is dropped and bit 0 becomes 0. -/
def ageHistory (hist : Byte) : Byte := hist <<< 1

/-! ### The queue (R23, R123, R124, R126) -/

/-- The slots, front first (R14). -/
def Queue.slots (q : Queue) : List Slot := [q.q0, q.q1, q.q2, q.q3, q.q4, q.q5, q.q6]

/-- The six slots the report is built from (R23). -/
def Queue.reported (q : Queue) : List Slot := [q.q0, q.q1, q.q2, q.q3, q.q4, q.q5]

/-- R123: `q[i] <- q[i-1]` for i = 5 down to 1, then `q[0] <- k`. `q[6]` is not written. -/
def Queue.pushFront (q : Queue) (k : Slot) : Queue := ⟨k, q.q0, q.q1, q.q2, q.q3, q.q4, q.q6⟩

/-- R124, `PARK_IN_SPARE`: the insert loop runs from i = 6. -/
def Queue.pushFrontParking (q : Queue) (k : Slot) : Queue := ⟨k, q.q0, q.q1, q.q2, q.q3, q.q4, q.q5⟩

/-- The insertion of KEV.PRESS_KEY under each overflow policy (R123, R124). -/
def Queue.insert (policy : OverflowPolicy) (q : Queue) (k : Slot) : Queue :=
  match policy with
  | .evictOldest => q.pushFront k
  | .rejectNewest => if q.q5 = emptySlot then q.pushFront k else q
  | .parkInSpare => q.pushFrontParking k

/-- R126: the first i < 6 with `q[i] = k`, or 6. -/
def Queue.search (q : Queue) (k : Slot) : Nat :=
  if q.q0 = k then 0 else if q.q1 = k then 1 else if q.q2 = k then 2
  else if q.q3 = k then 3 else if q.q4 = k then 4 else if q.q5 = k then 5 else 6

/-- R126: `q[j] <- q[j+1]` for j = i to 5; nothing for i = 6. -/
def Queue.compactFrom (q : Queue) (i : Nat) : Queue where
  q0 := if i ≤ 0 then q.q1 else q.q0
  q1 := if i ≤ 1 then q.q2 else q.q1
  q2 := if i ≤ 2 then q.q3 else q.q2
  q3 := if i ≤ 3 then q.q4 else q.q3
  q4 := if i ≤ 4 then q.q5 else q.q4
  q5 := if i ≤ 5 then q.q6 else q.q5
  q6 := q.q6

/-- R124, `PARK_IN_SPARE`: search and compaction run over slots 0 to 6 with `EMPTY` written to `q[6]` at the end;
a key in no slot leaves the queue unchanged (log entry 17). -/
def Queue.removeParking (q : Queue) (k : Slot) : Queue :=
  if q.search k < 6 then { q.compactFrom (q.search k) with q6 := emptySlot }
  else if q.q6 = k then { q with q6 := emptySlot }
  else q

/-- The removal of KEV.RELEASE_KEY (R126, R127); `REJECT_NEWEST` does not change it (R124). -/
def Queue.remove (policy : OverflowPolicy) (q : Queue) (k : Slot) : Queue :=
  match policy with
  | .evictOldest => q.compactFrom (q.search k)
  | .rejectNewest => q.compactFrom (q.search k)
  | .parkInSpare => q.removeParking k

/-! ### The report (R80, R89, R128) -/

/-- R89 (c): what a slot shows in a report. A slot that holds neither a key nor `EMPTY` shows nothing (R92). -/
def slotCode? (p : Params) (v : Slot) : Option Byte :=
  if v = emptySlot then some 0x00#8 else (p.entry? v).map (·.code)

/-- The report of R128, a function of `q[0..5]`, `mod` and the layout alone (R32). -/
def buildReport? (p : Params) (q : Queue) (modMask : Byte) : Option Report :=
  match slotCode? p q.q0, slotCode? p q.q1, slotCode? p q.q2,
      slotCode? p q.q3, slotCode? p q.q4, slotCode? p q.q5 with
  | some a, some b, some c, some d, some e, some f => some ⟨modMask, #v[a, b, c, d, e, f]⟩
  | _, _, _, _, _, _ => none

/-! ### The LED frame (R81 to R83, R89, R141) -/

/-- R89 (d): the lock bit replicated over 12 bits; `GS_ON` = 0xFFF, `GS_OFF` = 0x000 (R82). -/
def lockGray (b : Bool) : Gray := if b then 0xFFF#12 else 0x000#12

/-- R141: num lock (bit 0) drives channel 9, caps lock (bit 1) channel 10, scroll lock (bit 2) channel 11; the other
21 channels are not written. -/
def lockChannels (gs : Vector Gray 24) (lock : Byte) : Vector Gray 24 :=
  ((gs.set 9 (lockGray (lock.getLsbD 0))).set 10 (lockGray (lock.getLsbD 1))).set 11
    (lockGray (lock.getLsbD 2))

/-- R89 (e): the level that bit b of channel c drives on LED_DATA. -/
def frameBit (gs : Vector Gray 24) (c : Fin 24) (b : Fin 12) : Bool := gs[c].getLsbD b.val

/-- The bits of a frame in order of emission: channel 23 first, each channel from bit 11 down (R83, R144). -/
def framePositions : List (Fin 24 × Fin 12) :=
  (List.finRange 24).reverse.flatMap fun c => (List.finRange 12).reverse.map fun b => (c, b)

end Sys2Proof.Machine
end

