-- ==== Sys2Proof/Machine/Ops.lean ====
section
/-! DEFINITION. The named operations over registers, pins and ports (R15, R16), the entry to the period-event
handler and the return from it (R187, R188), and the sequencing of operations that can be refused. -/

namespace Sys2Proof.Machine

/-- What a meaning answers. -/
abbrev Result := Host.Outcome State Fault Refusal

/-- Run `f` on the state `r` answers, if it answers one. -/
def andThen (r : Result) (f : State → Result) : Result :=
  match r with
  | .next s => f s
  | .fault e => .fault e
  | .refused e => .refused e

/-! ### Registers (R15) -/

/-- Read `hist[k]`. -/
def State.histAt (s : State) (k : KeyIndex) : Byte := s.hist.getD k.toNat 0x00#8

/-- `hist[k] <- v`. -/
def State.setHist (s : State) (k : KeyIndex) (v : Byte) : State := { s with hist := s.hist.set k.toNat v }

/-- Read `pressed[k]`. -/
def State.pressedAt (s : State) (k : KeyIndex) : Bool := s.pressed.getD k.toNat false

/-- `pressed[k] <- v`. -/
def State.setPressed (s : State) (k : KeyIndex) (v : Bool) : State :=
  { s with pressed := s.pressed.set k.toNat v }

/-- Read `edge[k]`. -/
def State.edgeAt (s : State) (k : KeyIndex) : Edge := s.edge.getD k.toNat .none

/-- `edge[k] <- e`. -/
def State.setEdge (s : State) (k : KeyIndex) (e : Edge) : State := { s with edge := s.edge.set k.toNat e }

/-- `phase <- p` (R17, R33). -/
def State.setPhase (s : State) (p : Phase) : State := { s with phase := p }

/-- The key indices 0 to N − 1, ascending (R51). -/
def State.keys (s : State) : List KeyIndex := (List.range s.cfg.n).map (BitVec.ofNat 8)

/-! ### Outputs (R16) -/

/-- Append one output to the trace. -/
def State.emit (s : State) (o : Output) : State := { s with trace := o :: s.trace }

/-- The reports handed to the sink, in order (R18 (a)). -/
def State.reports (s : State) : List Report :=
  s.trace.reverse.filterMap fun o => match o with
    | .report r => some r
    | .pin _ _ => none
    | .delay => none

/-- The pin trace, in order (R18 (b)): everything put out but the reports. -/
def State.pinTrace (s : State) : List Output :=
  s.trace.reverse.filter fun o => match o with
    | .report _ => false
    | .pin _ _ => true
    | .delay => true

/-- `Delay()`: one settle delay, without a duration (R16, R210). -/
def delay (s : State) : State := s.emit .delay

/-- `ReportSend(r)`: the sink takes the report at once and answers nothing (R16, R58). -/
def reportSend (r : Report) (s : State) : State := s.emit (.report r)

/-- A level on one pin. -/
def Pins.set (ps : Pins) (p : Pin) (v : Bool) : Pins :=
  match p with
  | .srLoad => { ps with srLoad := v }
  | .srClk => { ps with srClk := v }
  | .ledData => { ps with ledData := v }
  | .ledClk => { ps with ledClk := v }
  | .ledLatch => { ps with ledLatch := v }
  | .ledEn => { ps with ledEn := v }

/-- Asserting SR_LOAD overwrites the matrix chain with the next snapshot (R62, R192); with no snapshot given, the
chain holds nothing and a read draws a free bit (log entry 4). -/
def loadChain (s : State) : State :=
  match s.snapshots with
  | [] => { s with chain := [] }
  | m :: ms => { s with chain := m, snapshots := ms }

/-- A pulse of SR_CLK presents the next key (R62, R192). -/
def advanceChain (s : State) : State := { s with chain := s.chain.tail }

/-- On a rising edge of LED_CLK the LED chain shifts left and takes LED_DATA at bit 0 (R193). -/
def shiftLedChain (s : State) : State :=
  { s with ledSr := (s.ledSr <<< 1) ||| (BitVec.ofBool s.pins.ledData).setWidth 288 }

/-- On a rising edge of LED_LATCH the outputs take the shift register (R193). -/
def latchLedChain (s : State) : State := { s with ledOut := s.ledSr }

/-- What the device behind the pin `p` does when `p` goes from level `old` to level `new` (R192, R193; log
entries 11 and 12). -/
def deviceReacts (p : Pin) (old new : Bool) (s : State) : State :=
  match p with
  | .srLoad => if new = s.cfg.loadActive then loadChain s else s
  | .srClk => if new = s.cfg.srclkActive then advanceChain s else s
  | .ledClk => if old = false ∧ new = true then shiftLedChain s else s
  | .ledLatch => if old = false ∧ new = true then latchLedChain s else s
  | .ledData => s
  | .ledEn => s

/-- The level of a pin. -/
def Pins.get (ps : Pins) (p : Pin) : Bool :=
  match p with
  | .srLoad => ps.srLoad
  | .srClk => ps.srClk
  | .ledData => ps.ledData
  | .ledClk => ps.ledClk
  | .ledLatch => ps.ledLatch
  | .ledEn => ps.ledEn

/-- `PinWrite(pin, level)`: the pin takes the level, the trace records it, the device behind the pin sees it (R16,
R29, R62). -/
def pinWrite (p : Pin) (v : Bool) (s : State) : State :=
  deviceReacts p (s.pins.get p) v { s.emit (.pin p v) with pins := s.pins.set p v }

/-- A pin write followed by its settle delay. -/
def pinWriteDelay (p : Pin) (v : Bool) (s : State) : State := delay (pinWrite p v s)

/-! ### Inputs (R16) -/

/-- `SenseRead()`: the level of the sense line, inverted when SENSE_INVERT (R16). A line the environment has given
no level for, after the last bit of the snapshot among others (U27), shows a free bit. Reading moves nothing in the
chain (R62). -/
def senseRead (s : State) : Bool × State :=
  match s.chain with
  | b :: _ => (b ^^ s.cfg.senseInvert, s)
  | [] => (Config.freeBit s.draws ^^ s.cfg.senseInvert, { s with draws := s.draws + 1 })

/-- `LockRead()`: the host's lock byte at this read, a free input of each scan (R16, R57). -/
def lockRead (s : State) : Byte × State :=
  match s.locks with
  | b :: bs => (b, { s with locks := bs })
  | [] => (Config.freeLock s.draws, { s with draws := s.draws + 1 })

/-! ### The handler (R185, R187, R188) -/

/-- TMR.DISABLE: `tmr_en <- 0` (R163). -/
def disableTimer (s : State) : State := { s with tmrEn := false }

/-- TMR.ENABLE: `tmr_en <- 1` (R164). -/
def enableTimer (s : State) : State := { s with tmrEn := true }

/-- Entry to the period-event handler (R187): the source masks itself, then the phase leaves 0; nothing is saved. -/
def enterHandler (s : State) : State := (disableTimer s).setPhase .sample

/-- Return from the handler (R188): the phase is 0 again, then the source is unmasked; nothing is restored. -/
def leaveHandler (s : State) : State := enableTimer (s.setPhase .idle)

/-! ### Operand guards (R54, R60, R85) -/

/-- Run `f` if k < N. -/
def onKey (k : KeyIndex) (s : State) (f : State → Result) : Result :=
  if s.cfg.hasKey k then f s else .refused .keyOutOfRange

/-- Run `f` on the layout entry of k, if k is a key whose entry says `isModifier = m`. -/
def onKeyOfKind (m : Bool) (k : KeyIndex) (s : State) (f : LayoutEntry → State → Result) : Result :=
  match s.cfg.entry? k with
  | none => .refused .keyOutOfRange
  | some e => if e.isModifier = m then f e s else .refused .keyOfOtherKind

end Sys2Proof.Machine
end

