-- ==== Sys2Proof/Machine/Boot.lean ====
section
/-! DEFINITION. The operation RESET (R200, R201). -/

namespace Sys2Proof.Machine

/-- R200, R201: every register at its reset value and the traces empty; the five driven pins at any level and the LED
chain unspecified, both free values (log entry 8). The parameters, the inputs to come and the matrix chain are not the
CORE's to reset. -/
def resetCore (s : State) : State :=
  { s with
    hist := List.replicate s.cfg.n 0x00#8
    pressed := List.replicate s.cfg.n false
    edge := List.replicate s.cfg.n .none
    q := Queue.empty
    modMask := 0x00#8
    gs := Vector.replicate 24 0x000#12
    tmrEn := true
    phase := .idle
    pins := { srLoad := Config.freeBit s.draws
              srClk := Config.freeBit (s.draws + 1)
              ledData := Config.freeBit (s.draws + 2)
              ledClk := Config.freeBit (s.draws + 3)
              ledLatch := Config.freeBit (s.draws + 4)
              ledEn := s.cfg.ledEnActive }
    trace := []
    ledSr := Config.freeChain (s.draws + 5)
    ledOut := Config.freeChain (s.draws + 6)
    draws := s.draws + 7 }

/-- RESET (R200). -/
def execReset (s : State) : Result := .next (resetCore s)

end Sys2Proof.Machine
end

