-- ==== Sys2Proof/Machine/Dispatcher.lean ====
section
/-! DEFINITION. The Key Event Dispatcher, the rollover queue and the report: KEV.PRESS_MOD, KEV.PRESS_KEY,
KEV.RELEASE_MOD, KEV.RELEASE_KEY, RPT.SEND, and the DISPATCH loop (R121 to R128). -/

namespace Sys2Proof.Machine

/-- R128: build the report and hand it to the sink; a reported slot that holds N to 0xFE has no meaning (R92). -/
def sendReport (s : State) : Result :=
  match buildReport? s.cfg s.q s.modMask with
  | some r => .next (reportSend r s)
  | none => .refused .slotOutOfRange

/-- R122: the press of a modifier key with layout entry `e`. -/
def pressModifier (k : KeyIndex) (e : LayoutEntry) (s : State) : Result :=
  sendReport { s.setPressed k true with modMask := s.modMask ||| e.code }

/-- R123 (and R124): the press of a non-modifier key. -/
def pressKey (k : KeyIndex) (s : State) : Result :=
  sendReport { s.setPressed k true with q := s.q.insert s.cfg.overflowPolicy k }

/-- R125: the release of a modifier key with layout entry `e`. -/
def releaseModifier (k : KeyIndex) (e : LayoutEntry) (s : State) : Result :=
  sendReport { s.setPressed k false with modMask := s.modMask &&& ~~~e.code }

/-- R126, R127: the release of a non-modifier key. -/
def releaseKey (k : KeyIndex) (s : State) : Result :=
  sendReport { s.setPressed k false with q := s.q.remove s.cfg.overflowPolicy k }

/-- R121: the operation that an edge and the key's layout entry select (format DS, R85). -/
def dispatchEdge (k : KeyIndex) (ed : Edge) (s : State) : Result :=
  match ed, s.cfg.entry? k with
  | .none, _ => .next s
  | _, none => .refused .keyOutOfRange
  | .press, some e => if e.isModifier then pressModifier k e s else pressKey k s
  | .release, some e => if e.isModifier then releaseModifier k e s else releaseKey k s

/-- R121: one round of the DISPATCH loop; the edge is consumed. -/
def dispatchKey (k : KeyIndex) (s : State) : Result :=
  andThen (dispatchEdge k (s.edgeAt k) s) fun t => .next (t.setEdge k .none)

/-- The DISPATCH loop over a list of keys. -/
def dispatchKeys : List KeyIndex → State → Result
  | [], s => .next s
  | k :: ks, s => andThen (dispatchKey k s) (dispatchKeys ks)

/-- KEV.PRESS_KEY k (R123). -/
def execKevPressKey (k : KeyIndex) (s : State) : Result := onKeyOfKind false k s fun _ t => pressKey k t

/-- KEV.PRESS_MOD k (R122). -/
def execKevPressMod (k : KeyIndex) (s : State) : Result := onKeyOfKind true k s fun e t => pressModifier k e t

/-- KEV.RELEASE_KEY k (R126). -/
def execKevReleaseKey (k : KeyIndex) (s : State) : Result := onKeyOfKind false k s fun _ t => releaseKey k t

/-- KEV.RELEASE_MOD k (R125). -/
def execKevReleaseMod (k : KeyIndex) (s : State) : Result :=
  onKeyOfKind true k s fun e t => releaseModifier k e t

/-- RPT.SEND (R128). -/
def execRptSend (s : State) : Result := sendReport s

end Sys2Proof.Machine
end

