-- ==== Sys2Proof/Machine/Flags.lean ====
section
/-! DEFINITION. The flags of R26: the comparator's two edge signals, combinational functions of `hist[k]` and
`pressed[k]`. No operation has a carry, zero, overflow or sign flag (R26). -/

namespace Sys2Proof.Machine

/-- `PAT_PRESS` (R88, R105). -/
def patPress : Byte := 0b01111111#8

/-- `PAT_RELEASE` (R88, R106). -/
def patRelease : Byte := 0b10000000#8

/-- The comparator word, format CW: `{pressed[k], hist[k]}` (R77). -/
def comparatorWord (pressed : Bool) (hist : Byte) : BitVec 9 := BitVec.ofBool pressed ++ hist

/-- The comparator (R104): a press pattern on a released key, a release pattern on a pressed one, or nothing
(R105 to R107). -/
def selectEdge (cw : BitVec 9) : Edge :=
  if cw = comparatorWord false patPress then .press
  else if cw = comparatorWord true patRelease then .release
  else .none

end Sys2Proof.Machine
end

