-- ==== Sys2Proof/Machine/Filter.lean ====
section
/-! DEFINITION. The Debounce Filter: DBN.PRESS_EDGE, DBN.RELEASE_EDGE, DBN.HOLD, DBN.SHIFT, DBN.EVAL (R104 to
R109). -/

namespace Sys2Proof.Machine

/-- R104 to R107: the comparison of key k and the edge it emits. -/
def compareKey (s : State) (k : KeyIndex) : State :=
  s.setEdge k (selectEdge (comparatorWord (s.pressedAt k) (s.histAt k)))

/-- R108: age the history of key k by one sample. -/
def shiftKey (s : State) (k : KeyIndex) : State := s.setHist k (ageHistory (s.histAt k))

/-- R109: one round of the filter's loop. -/
def evalKey (s : State) (k : KeyIndex) : State := shiftKey (compareKey s k) k

/-- R109: the whole FILTER phase, keys in ascending order. -/
def evalKeys (s : State) : State := s.keys.foldl evalKey s

/-- DBN.PRESS_EDGE k (R105). -/
def execDbnPressEdge (k : KeyIndex) (s : State) : Result := onKey k s fun t => .next (t.setEdge k .press)

/-- DBN.RELEASE_EDGE k (R106). -/
def execDbnReleaseEdge (k : KeyIndex) (s : State) : Result := onKey k s fun t => .next (t.setEdge k .release)

/-- DBN.HOLD k (R107). -/
def execDbnHold (k : KeyIndex) (s : State) : Result := onKey k s fun t => .next (t.setEdge k .none)

/-- DBN.SHIFT k (R108). -/
def execDbnShift (k : KeyIndex) (s : State) : Result := onKey k s fun t => .next (shiftKey t k)

/-- DBN.EVAL (R109), the loop over all keys (log entry 21). -/
def execDbnEval (s : State) : Result := .next (evalKeys s)

end Sys2Proof.Machine
end

