-- ==== Sys2Proof/Machine/Led.lean ====
section
/-! DEFINITION. The LED Grayscale Driver: LED.UPDATE, LED.BIT, LED.COMMIT, LED.FRAME (R141 to R145). -/

namespace Sys2Proof.Machine

/-- R141: the lock byte, read once, sets the three lock channels. -/
def updateLeds (s : State) : State :=
  let r := lockRead s
  { r.2 with gs := lockChannels r.2.gs r.1 }

/-- R142: clock low, data, clock high, a settle delay after each. -/
def shiftBit (s : State) (cb : Fin 24 × Fin 12) : State :=
  pinWriteDelay .ledClk true
    (pinWriteDelay .ledData (frameBit s.gs cb.1 cb.2) (pinWriteDelay .ledClk false s))

/-- R143: clock low, delay, latch high, delay, latch low; no delay after the last. -/
def commitFrame (s : State) : State :=
  pinWrite .ledLatch false (pinWriteDelay .ledLatch true (pinWriteDelay .ledClk false s))

/-- R144: latch low, delay, the 288 bits, commit. -/
def sendFrame (s : State) : State :=
  commitFrame (framePositions.foldl shiftBit (pinWriteDelay .ledLatch false s))

/-- R145: the whole LED phase of a scan. -/
def ledPhase (s : State) : State := sendFrame (updateLeds s)

/-- LED.UPDATE (R141). -/
def execLedUpdate (s : State) : Result := .next (updateLeds s)

/-- LED.BIT c, b (R142). -/
def execLedBit (c : Fin 24) (b : Fin 12) (s : State) : Result := .next (shiftBit s (c, b))

/-- LED.COMMIT (R143). -/
def execLedCommit (s : State) : Result := .next (commitFrame s)

/-- LED.FRAME (R144). -/
def execLedFrame (s : State) : Result := .next (sendFrame s)

end Sys2Proof.Machine
end

