-- ==== Sys2Proof/Machine/Sampler.lean ====
section
/-! DEFINITION. The Matrix Sampler: SMP.LATCH, SMP.READ, SMP.SNAPSHOT (R101 to R103). -/

namespace Sys2Proof.Machine

/-- R101: SR_LOAD asserted and de-asserted, a settle delay after each. -/
def latchMatrix (s : State) : State :=
  pinWriteDelay .srLoad (!s.cfg.loadActive) (pinWriteDelay .srLoad s.cfg.loadActive s)

/-- R102: SR_CLK asserted and de-asserted, a settle delay after each. -/
def pulseClock (s : State) : State :=
  pinWriteDelay .srClk (!s.cfg.srclkActive) (pinWriteDelay .srClk s.cfg.srclkActive s)

/-- R102: read the sense line, OR the sample into bit 0 of `hist[k]`, pulse the clock. -/
def sampleKey (s : State) (k : KeyIndex) : State :=
  let r := senseRead s
  pulseClock (r.2.setHist k (addSample (r.2.histAt k) r.1))

/-- R103: the whole SAMPLE phase. -/
def snapshotMatrix (s : State) : State := s.keys.foldl sampleKey (latchMatrix s)

/-- SMP.LATCH (R101). -/
def execSmpLatch (s : State) : Result := .next (latchMatrix s)

/-- SMP.READ k (R102). DESIGN CHOICE: it runs for every key k < N, in ascending order or not, and takes the bit the sense
line then shows (log entry 22). -/
def execSmpRead (k : KeyIndex) (s : State) : Result := onKey k s fun t => .next (sampleKey t k)

/-- SMP.SNAPSHOT (R103). -/
def execSmpSnapshot (s : State) : Result := .next (snapshotMatrix s)

end Sys2Proof.Machine
end

