-- ==== Sys2Proof/Machine/Scheduler.lean ====
section
/-! DEFINITION. The Periodic Scheduler: TMR.FIRE, TMR.DISABLE, TMR.ENABLE, SCAN, IDLE (R162 to R168). -/

namespace Sys2Proof.Machine

/-- R166, phases 1 and 2: the handler is entered, all samples are taken, all keys are compared. -/
def sampleAndFilter (s : State) : State :=
  evalKeys ((snapshotMatrix (enterHandler s)).setPhase .filter)

/-- R166, phase 3: the DISPATCH loop over all keys, in ascending order (R121). -/
def dispatchPhase (s : State) : Result := dispatchKeys s.keys (s.setPhase .dispatch)

/-- R166, phase 4 and the return from the handler. -/
def ledAndLeave (s : State) : State := leaveHandler (ledPhase (s.setPhase .led))

/-- R166: one execution of the pipeline. -/
def runScan (s : State) : Result :=
  andThen (dispatchPhase (sampleAndFilter s)) fun t => .next (ledAndLeave t)

/-- TMR.FIRE (R162): a period event starts a scan; with `tmr_en` = 0 it does nothing and is lost (R165). -/
def execTmrFire (s : State) : Result := if s.tmrEn then runScan s else .next s

/-- TMR.DISABLE (R163). -/
def execTmrDisable (s : State) : Result := .next (disableTimer s)

/-- TMR.ENABLE (R164). -/
def execTmrEnable (s : State) : Result := .next (enableTimer s)

/-- SCAN (R166). -/
def execScan (s : State) : Result := runScan s

/-- IDLE (R168): nothing. -/
def execIdle (s : State) : Result := .next s

end Sys2Proof.Machine
end

