-- ==== Sys2Proof/Machine/Dispatch.lean ====
section
/-! DEFINITION. One arm per operation. -/

namespace Sys2Proof.Machine

def exec (i : Instr) (s : State) : Host.Outcome State Fault Refusal :=
  match i with
  | .smpLatch => Sys2Proof.Machine.execSmpLatch s
  | .smpRead k => Sys2Proof.Machine.execSmpRead k s
  | .smpSnapshot => Sys2Proof.Machine.execSmpSnapshot s
  | .dbnPressEdge k => Sys2Proof.Machine.execDbnPressEdge k s
  | .dbnReleaseEdge k => Sys2Proof.Machine.execDbnReleaseEdge k s
  | .dbnHold k => Sys2Proof.Machine.execDbnHold k s
  | .dbnShift k => Sys2Proof.Machine.execDbnShift k s
  | .dbnEval => Sys2Proof.Machine.execDbnEval s
  | .kevPressKey k => Sys2Proof.Machine.execKevPressKey k s
  | .kevPressMod k => Sys2Proof.Machine.execKevPressMod k s
  | .kevReleaseKey k => Sys2Proof.Machine.execKevReleaseKey k s
  | .kevReleaseMod k => Sys2Proof.Machine.execKevReleaseMod k s
  | .rptSend => Sys2Proof.Machine.execRptSend s
  | .ledUpdate => Sys2Proof.Machine.execLedUpdate s
  | .ledBit c b => Sys2Proof.Machine.execLedBit c b s
  | .ledCommit => Sys2Proof.Machine.execLedCommit s
  | .ledFrame => Sys2Proof.Machine.execLedFrame s
  | .tmrFire => Sys2Proof.Machine.execTmrFire s
  | .tmrDisable => Sys2Proof.Machine.execTmrDisable s
  | .tmrEnable => Sys2Proof.Machine.execTmrEnable s
  | .scan => Sys2Proof.Machine.execScan s
  | .idle => Sys2Proof.Machine.execIdle s
  | .reset => Sys2Proof.Machine.execReset s

end Sys2Proof.Machine
end

