-- ==== Sys2Proof/Machine/Fetch.lean ====
section
/-! DEFINITION. What the next step runs. The CORE fetches nothing (R70): the RESET event, or the timer's select word
TS = {tmr_en, period event} (R87), selects the operation. Bytes on the model's operation port come first (log entry 5). -/

namespace Sys2Proof.Machine

/-- The bytes the next step decodes, and the state with the port's bytes or the event taken. With no event given, a
period event arrives or not by a free value (R161, log entry 4). -/
def fetch (s : State) : List Byte × State :=
  match s.opPort with
  | b :: bs => (b :: bs, { s with opPort := [] })
  | [] =>
    match s.events with
    | .reset :: es => (encode .reset, { s with events := es })
    | .tick :: es => (timerImage s.tmrEn true, { s with events := es })
    | .quiet :: es => (timerImage s.tmrEn false, { s with events := es })
    | [] => (timerImage s.tmrEn (Config.freeTick s.draws), { s with draws := s.draws + 1 })

/-- `s` with bytes offered at the operation port, so that the next step decodes exactly them. -/
def State.offer (s : State) (bytes : List Byte) : State := { s with opPort := bytes }

/-- The raw samples of a stimulus word `{lock[7:0], raw[N-1:0]}`, from key 0 up (R84). -/
def stimulusSamples (p : Params) (sw : Nat) : List Bool := (List.range p.n).map sw.testBit

/-- The lock byte of a stimulus word (R84). -/
def stimulusLock (p : Params) (sw : Nat) : Byte := BitVec.ofNat 8 (sw >>> p.n)

/-- One line of a scan script (R84, R95): one period event, with the samples `SenseRead()` is to answer and the lock
byte. The sense levels are the samples before the inversion of SENSE_INVERT (R16). -/
def State.offerScan (s : State) (sw : Nat) : State :=
  { s with
    events := s.events ++ [.tick]
    snapshots := s.snapshots ++ [(stimulusSamples s.cfg sw).map (· ^^ s.cfg.senseInvert)]
    locks := s.locks ++ [stimulusLock s.cfg sw] }

end Sys2Proof.Machine
end

