-- ==== Sys2Proof/Machine/Step.lean ====
section
/-! DEFINITION. One step (R19): take what is selected, decode it, run it. -/

namespace Sys2Proof.Machine

/-- One step of the machine: one operation from the port, or one event and, when it is a period event with the timer
enabled, the whole scan it starts (R19, R87). -/
def step (s : State) : Host.Outcome State Fault Refusal :=
  match decode (fetch s).1 with
  | .ok (i, rest) => exec i ((fetch s).2.offer rest)
  | .error e => .refused (.notAnImage e)

/-- `s` with the operation of a table word at the operation port, so that the next step runs it (log entry 5). -/
def State.withFetchWord (s : State) (nbits w : Nat) : State := s.offer (tableImage nbits w)

end Sys2Proof.Machine
end

