-- ==== Sys2Proof/Safety.lean ====
section
/-! DEFINITION. The terms claims are stated in: what a well-made state is, the invariants of R37 to R44 and R146, what a
report shows, how outputs are counted, and the reference forms of a frame's outputs and of the interleaved filter. -/

namespace Sys2Proof.Machine

/-! ### Well-made states -/

/-- One history, one flag and one edge per key (R20, R26). -/
def State.Sized (s : State) : Prop :=
  s.hist.length = s.cfg.n ∧ s.pressed.length = s.cfg.n ∧ s.edge.length = s.cfg.n

/-- Every slot holds a key index below N or `EMPTY` (R78, R92). -/
def State.SlotsValid (s : State) : Prop := ∀ v ∈ s.q.slots, v = 0xFF#8 ∨ v.toNat < s.cfg.n

/-- R38 to R41: the live entries stand at the front, at most six, without a duplicate, each a pressed non-modifier key;
every other slot, the spare among them, is `EMPTY`. -/
def State.QueueOk (s : State) : Prop :=
  ∃ live : List KeyIndex,
    live.length ≤ 6 ∧ live.Nodup ∧
    s.q.slots = live ++ List.replicate (7 - live.length) 0xFF#8 ∧
    ∀ k ∈ live, s.cfg.keyOfKind k false = true ∧ s.pressedAt k = true

/-- R43: the 21 reserved channels are dark. -/
def State.ReservedDark (s : State) : Prop :=
  ∀ c : Fin 24, c ≠ 9 → c ≠ 10 → c ≠ 11 → s.gs[c] = 0x000#12

/-- R43: the three lock channels are off or fully on. -/
def State.LockChannelsFull (s : State) : Prop :=
  ∀ c : Fin 24, c = 9 ∨ c = 10 ∨ c = 11 → s.gs[c] = 0x000#12 ∨ s.gs[c] = 0xFFF#12

/-- R146: LED_EN is asserted. -/
def State.ChainEnabled (s : State) : Prop := s.pins.ledEn = s.cfg.ledEnActive

/-- R146: `t` has the outputs of `s` and further ones, none of them a write of LED_EN. -/
def State.AddsNoLedEnWrite (t s : State) : Prop :=
  ∃ os : List Output, t.trace = os ++ s.trace ∧ ∀ o ∈ os, ∀ level : Bool, o ≠ .pin .ledEn level

/-- What key k puts into the modifier mask: its code if it is a modifier key, nothing otherwise (R9). -/
def modifierCode (p : Params) (k : KeyIndex) : Byte :=
  match p.entry? k with
  | some e => if e.isModifier then e.code else 0x00#8
  | none => 0x00#8

/-- R42: no two modifier keys' codes share a bit. -/
def ModifiersDisjoint (p : Params) : Prop :=
  ((List.range p.n).map (BitVec.ofNat 8)).Pairwise fun k l => modifierCode p k &&& modifierCode p l = 0x00#8

/-- R25, R42: the mask is the "bit-OR of all currently-pressed modifier keys' layout values". -/
def State.ModMaskOk (s : State) : Prop :=
  s.modMask = (s.keys.filter s.pressedAt).foldl (fun m k => m ||| modifierCode s.cfg k) 0x00#8

/-- What holds between scans on the hardware the spec describes (R20, R24, R26, R37 to R44, R146): no step of the
hardware leaves it. The operation port is empty, since the hardware has none. -/
structure State.Inv (s : State) : Prop where
  sized : s.Sized
  policy : s.cfg.overflowPolicy = .evictOldest
  lowBit : ∀ h ∈ s.hist, h.getLsbD 0 = false
  noEdges : ∀ e ∈ s.edge, e = .none
  queue : s.QueueOk
  reserved : s.ReservedDark
  lockChannels : s.LockChannelsFull
  timer : s.tmrEn = true
  phase : s.phase = .idle
  chainEnabled : s.ChainEnabled
  portEmpty : s.opPort = []

/-- The values R200 gives; it leaves the five driven pins and the devices open. -/
structure State.IsStart (s : State) : Prop where
  hist : s.hist = List.replicate s.cfg.n 0x00#8
  pressed : s.pressed = List.replicate s.cfg.n false
  edge : s.edge = List.replicate s.cfg.n .none
  slots : s.q.slots = List.replicate 7 0xFF#8
  modMask : s.modMask = 0x00#8
  gs : ∀ c : Fin 24, s.gs[c] = 0x000#12
  phase : s.phase = .idle
  ledEn : s.pins.ledEn = s.cfg.ledEnActive
  timer : s.tmrEn = true
  reports : s.reports = []
  pinTrace : s.pinTrace = []

/-! ### What a report shows -/

/-- R128: the keycode of a slot, 0x00 for an empty one. -/
def shownCode (p : Params) (v : Slot) : Byte :=
  if v = 0xFF#8 then 0x00#8 else ((p.entry? v).map (·.code)).getD 0x00#8

/-- R128: the report of a queue whose slots are valid, with the modifier mask `m`. -/
def shownReport (p : Params) (q : Queue) (m : Byte) : Report :=
  ⟨m, #v[shownCode p q.q0, shownCode p q.q1, shownCode p q.q2,
         shownCode p q.q3, shownCode p q.q4, shownCode p q.q5]⟩

/-! ### Samples, comparisons -/

/-- A sample as a history bit: 1 for high (R102). -/
def sampleByte (b : Bool) : Byte := if b then 0x01#8 else 0x00#8

/-- The history of key k that the comparator sees in a scan whose snapshot is `m` (R12, R102). -/
def State.comparedHist (s : State) (m : List Bool) (k : KeyIndex) : Byte :=
  s.histAt k ||| sampleByte (m.getD k.toNat false ^^ s.cfg.senseInvert)

/-- R105 to R107, read from the rules: the edge that a history and a flag give. -/
def edgeOf (h : Byte) (pressed : Bool) : Edge :=
  if h = 0x7F#8 ∧ pressed = false then .press
  else if h = 0x80#8 ∧ pressed = true then .release
  else .none

/-! ### Outputs -/

/-- An output that is a pin write. -/
def Output.isPin : Output → Bool
  | .pin _ _ => true
  | .delay => false
  | .report _ => false

/-- An output that is a report. -/
def Output.isReport : Output → Bool
  | .pin _ _ => false
  | .delay => false
  | .report _ => true

/-- How many pin writes a list of outputs has. -/
def pinWrites (os : List Output) : Nat := os.countP Output.isPin

/-- How many delays a list of outputs has. -/
def delays (os : List Output) : Nat := os.countP (· == .delay)

/-- How many times the pin `p` goes from low to high in a list of outputs, oldest first, from the level `old`. -/
def rises (p : Pin) (old : Bool) : List Output → Nat
  | [] => 0
  | .delay :: os => rises p old os
  | .report _ :: os => rises p old os
  | .pin r new :: os =>
    if r = p then (if old = false ∧ new = true then 1 else 0) + rises p new os else rises p old os

/-- The levels of LED_DATA at the rises of LED_CLK in a list of outputs, oldest first, from the levels `clk` and `data`
(R147). -/
def sampledBits (clk data : Bool) : List Output → List Bool
  | [] => []
  | .delay :: os => sampledBits clk data os
  | .report _ :: os => sampledBits clk data os
  | .pin .ledData v :: os => sampledBits clk v os
  | .pin .ledClk v :: os => if clk = false ∧ v = true then data :: sampledBits v data os else sampledBits v data os
  | .pin .srLoad _ :: os => sampledBits clk data os
  | .pin .srClk _ :: os => sampledBits clk data os
  | .pin .ledLatch _ :: os => sampledBits clk data os
  | .pin .ledEn _ :: os => sampledBits clk data os

/-- Bit p of the LED frame (R83). -/
def frameBitAt (gs : Vector Gray 24) (p : Nat) : Bool :=
  (gs.toList.getD (23 - p / 12) 0#12).getLsbD (11 - p % 12)

/-- The outputs of LED.BIT for frame bit p (R83, R142), in order: channel 23 − p div 12, bit 11 − p mod 12. -/
def frameBitOutputs (gs : Vector Gray 24) (p : Nat) : List Output :=
  [.pin .ledClk false, .delay,
   .pin .ledData (frameBitAt gs p), .delay,
   .pin .ledClk true, .delay]

/-- The outputs of LED.FRAME, in order (R143, R144). -/
def frameOutputs (gs : Vector Gray 24) : List Output :=
  [.pin .ledLatch false, .delay] ++ (List.range 288).flatMap (frameBitOutputs gs) ++
  [.pin .ledClk false, .delay, .pin .ledLatch true, .delay, .pin .ledLatch false]

/-! ### The interleaved order -/

/-- R109: the filter with the dispatcher operation of each key run immediately after its comparison. -/
def interleavedKeys : List KeyIndex → State → Result
  | [], s => .next s
  | k :: ks, s => andThen (dispatchKey k (evalKey s k)) (interleavedKeys ks)

end Sys2Proof.Machine
end

