-- ==== Sys2Proof/Certificates/Slice0/Obligations.lean ====
section
/-! DEFINITION. The statements for the provers. Each names the rule of spec/ it formalises. -/

open Sys2Proof Sys2Proof.Machine

/-! ### Decoding and encoding -/

/-- Every row of R90's map: the select words of R85, R86, R87 and R90 and the comparator words of R105, R106 and R107,
written out as images with every operand, decode to the operations they select. The words are the spec's; the place of a
select word in an image, and the position and operand bytes, are the model's own (log entry 5). -/
def Obligations.SelectWordsDecode : Prop :=
  (decode [0, 0b000, 0, 0, 0, 0] = .ok (.idle, []) ∧
   decode [0, 0b000, 0, 1, 0, 0] = .ok (.tmrDisable, []) ∧
   decode [0, 0b000, 0, 2, 0, 0] = .ok (.tmrEnable, []) ∧
   decode [0, 0b001, 0, 0, 0, 0] = .ok (.smpSnapshot, []) ∧
   decode [0, 0b001, 0, 1, 0, 0] = .ok (.smpLatch, []) ∧
   decode [0, 0b010, 0, 0, 0, 0] = .ok (.dbnEval, []) ∧
   decode [0, 0b011, 0, 0, 0, 0] = .ok (.rptSend, []) ∧
   decode [0, 0b100, 0, 0, 0, 0] = .ok (.ledFrame, []) ∧
   decode [0, 0b100, 0, 1, 0, 0] = .ok (.ledUpdate, []) ∧
   decode [0, 0b100, 0, 3, 0, 0] = .ok (.ledCommit, []) ∧
   decode [3, 0b11, 0, 0, 0, 0] = .ok (.tmrFire, []) ∧
   decode [3, 0b11, 0, 1, 0, 0] = .ok (.scan, []) ∧
   decode [3, 0b01, 0, 0, 0, 0] = .ok (.idle, []) ∧
   decode [3, 0b10, 0, 0, 0, 0] = .ok (.idle, []) ∧
   decode [3, 0b00, 0, 0, 0, 0] = .ok (.idle, []) ∧
   decode [4, 1, 0, 0, 0, 0] = .ok (.reset, [])) ∧
  (∀ k : KeyIndex,
   decode [0, 0b001, 0, 2, k, 0] = .ok (.smpRead k, []) ∧
   decode [0, 0b010, 0, 1, k, 0] = .ok (.dbnShift k, []) ∧
   decode [1, 0b01111111, 0b0, 0, k, 0] = .ok (.dbnPressEdge k, []) ∧
   decode [1, 0b10000000, 0b1, 0, k, 0] = .ok (.dbnReleaseEdge k, []) ∧
   decode [1, 0b01111111, 0b1, 0, k, 0] = .ok (.dbnHold k, []) ∧
   decode [1, 0b10000000, 0b0, 0, k, 0] = .ok (.dbnHold k, []) ∧
   decode [2, 0b00, 0, 0, k, 0] = .ok (.kevPressKey k, []) ∧
   decode [2, 0b01, 0, 0, k, 0] = .ok (.kevPressMod k, []) ∧
   decode [2, 0b10, 0, 0, k, 0] = .ok (.kevReleaseKey k, []) ∧
   decode [2, 0b11, 0, 0, k, 0] = .ok (.kevReleaseMod k, [])) ∧
  ∀ (c : Fin 24) (b : Fin 12),
   decode [0, 0b100, 0, 2, BitVec.ofNat 8 c.val, BitVec.ofNat 8 b.val] = .ok (.ledBit c b, [])

/-- Every operation, with every operand, is what its image decodes to, whatever bytes follow it. Images are the model's own
(DESIGN CHOICE, log entry 5). -/
def Obligations.DecodeEncodeRoundTrip : Prop :=
  ∀ (i : Instr) (rest : List Byte), decode (encode i ++ rest) = .ok (i, rest)

/-- R91: each of the 512 comparator words selects an operation: 0x07F the press edge, 0x180 the release edge, the other
510 the hold. The image around the word is the model's own (log entry 5). -/
def Obligations.ComparatorWordsAllDecode : Prop :=
  ∀ (w : BitVec 9) (k : KeyIndex) (rest : List Byte),
    decode (imageOf 1 (w.setWidth 16) 0 k 0 ++ rest) =
      .ok ((if w = 0b001111111#9 then .dbnPressEdge k
            else if w = 0b110000000#9 then .dbnReleaseEdge k
            else .dbnHold k), rest)

/-- R86: the phase selects 101, 110 and 111 never occur, and are refused by name at every position of
an image (the model's own, log entry 5). -/
def Obligations.ReservedPhaseSelectsRefused : Prop :=
  ∀ (w : BitVec 16) (pos x y : Byte) (rest : List Byte), 5 ≤ w.toNat → w.toNat < 8 →
    decode (imageOf 0 w pos x y ++ rest) = .error .reservedPhase

/-! ### What a step runs -/

/-- When the bytes at the operation port decode to an operation, a step is that operation, run on the state whose port
holds the bytes left over; when they do not decode, the step is refused by name. The operation port is the model's own
(DESIGN CHOICE, log entry 5); the spec gives the operations (R90), no such port. -/
def Obligations.StepRunsDecodedOperation : Prop :=
  ∀ (s : State) (b : Byte) (bs : List Byte), s.opPort = b :: bs →
    (∀ (i : Instr) (rest : List Byte), decode (b :: bs) = .ok (i, rest) →
      step s = exec i { s with opPort := rest }) ∧
    (∀ e : DecodeError, decode (b :: bs) = .error e → step s = .refused (.notAnImage e))

/-- R162, R87: a period event runs the scan if the timer is enabled; if it is not, the event is lost and nothing else
happens (R165). -/
def Obligations.PeriodEventStartsScanOrIsLost : Prop :=
  ∀ (s : State) (es : List Event), s.opPort = [] → s.events = .tick :: es →
    step s = if s.tmrEn = true then exec .scan { s with events := es } else .next { s with events := es }

/-- R168: with no period event a step changes nothing (it takes the environment's "no event" from the list). -/
def Obligations.QuietStepChangesNothing : Prop :=
  ∀ (s : State) (es : List Event), s.opPort = [] → s.events = .quiet :: es →
    step s = .next { s with events := es }

/-- The RESET event runs the operation RESET. -/
def Obligations.ResetEventRunsReset : Prop :=
  ∀ (s : State) (es : List Event), s.opPort = [] → s.events = .reset :: es →
    step s = exec .reset { s with events := es }

/-- R161: with no event given, a period event arrives or not as the environment chooses (a free value, log entry 4). -/
def Obligations.UngivenEventIsFree : Prop :=
  ∀ s : State, s.opPort = [] → s.events = [] →
    step s = if s.tmrEn = true ∧ Config.freeTick s.draws = true then exec .scan { s with draws := s.draws + 1 }
             else .next { s with draws := s.draws + 1 }

/-- An operation of the opcode table placed by `withFetchWord` is the one the next step runs. Placing an operation, and
which operation a bare table word is read as, are the model's own (DESIGN CHOICE, log entries 5 and 6). -/
def Obligations.StepRunsPlacedTableWord : Prop :=
  ∀ (s : State) (nbits w : Nat) (i : Instr), decodeTableWord nbits w = some i →
    step (s.withFetchWord nbits w) = exec i { s with opPort := [] }

/-! ### Reset -/

/-- R200: the state after reset, for every board, has the values the rule gives. -/
def Obligations.ResetStateIsStart : Prop :=
  (∀ p : Params, (State.resetWith p).cfg = p ∧ (State.resetWith p).IsStart) ∧
  State.reset = State.resetWith Config.params

/-- R200, R201: RESET puts any state into the start state, with no edge pending and the traces empty. That the parameters,
the matrix chain, the inputs to come and the operation port are left as they are is the model's choice (DESIGN CHOICE, log
entry 8). -/
def Obligations.ResetOperationGivesStart : Prop :=
  ∀ s : State, ∃ t : State, exec .reset s = .next t ∧ t.IsStart ∧
    t.cfg = s.cfg ∧ t.chain = s.chain ∧ t.snapshots = s.snapshots ∧ t.locks = s.locks ∧
    t.events = s.events ∧ t.opPort = s.opPort

/-! ### Matrix Sampler -/

/-- R101: SMP.LATCH asserts and de-asserts SR_LOAD, a delay after each; nothing else of the CORE changes, and a sense read
then gives the bit of key 0 of the snapshot (MatrixChainFollowsLines says all of what the chain does). -/
def Obligations.LatchPulsesLoadLine : Prop :=
  ∀ s : State, ∃ t : State, exec .smpLatch s = .next t ∧
    t = { s with
          pins := { s.pins with srLoad := !s.cfg.loadActive }
          chain := t.chain
          snapshots := t.snapshots
          trace := [.delay, .pin .srLoad (!s.cfg.loadActive), .delay, .pin .srLoad s.cfg.loadActive] ++ s.trace } ∧
    ∀ (b : Bool) (m : List Bool) (ms : List (List Bool)), s.snapshots = (b :: m) :: ms →
      (senseRead t).1 = (b ^^ s.cfg.senseInvert)

/-- R102: SMP.READ k ORs the sample into bit 0 of `hist[k]` and pulses SR_CLK, a delay after each edge; the sample is
the level of the sense line, inverted when SENSE_INVERT (R16), any level when the environment gives none; nothing else of
the CORE changes. That it is so for a read out of ascending order too is the model's choice (DESIGN CHOICE, log entry
22). -/
def Obligations.ReadOrsSampleIntoHistory : Prop :=
  ∀ (s : State) (k : KeyIndex), k.toNat < s.cfg.n → ∃ (level : Bool) (t : State),
    (∀ (b : Bool) (bs : List Bool), s.chain = b :: bs → level = b) ∧
    exec (.smpRead k) s = .next t ∧
    t = { s with
          hist := s.hist.set k.toNat (s.histAt k ||| sampleByte (level ^^ s.cfg.senseInvert))
          pins := { s.pins with srClk := !s.cfg.srclkActive }
          chain := t.chain
          draws := t.draws
          trace := [.delay, .pin .srClk (!s.cfg.srclkActive), .delay, .pin .srClk s.cfg.srclkActive] ++ s.trace }

/-- R62, R192: SMP.LATCH puts the next snapshot into the matrix chain; SMP.READ takes nothing out by reading and moves the
chain on by one bit with its clock pulse, a free value being drawn only when the chain has no bit to show. The chain is the
model's reading of the environment (log entries 4 and 11). -/
def Obligations.MatrixChainFollowsLines : Prop :=
  ∀ s : State,
    (∃ t : State, exec .smpLatch s = .next t ∧ t.chain = s.snapshots.headD [] ∧
      t.snapshots = s.snapshots.tail) ∧
    ∀ k : KeyIndex, k.toNat < s.cfg.n → ∃ t : State, exec (.smpRead k) s = .next t ∧
      t.chain = s.chain.tail ∧ t.draws = if s.chain = [] then s.draws + 1 else s.draws

/-- R103: SMP.SNAPSHOT is SMP.LATCH and then SMP.READ of every key in ascending order; it completes in every state, makes
2 + 2N pin writes and as many delays, and writes only histories, SR_LOAD, SR_CLK and the trace (and moves the matrix chain
on). -/
def Obligations.SnapshotIsLatchThenReads : Prop :=
  ∀ s : State,
    exec .smpSnapshot s =
      ((List.range s.cfg.n).map (BitVec.ofNat 8)).foldl (fun r k => andThen r (exec (.smpRead k)))
        (exec .smpLatch s) ∧
    ∃ (t : State) (os : List Output), exec .smpSnapshot s = .next t ∧
      t = { s with
            hist := t.hist, chain := t.chain, snapshots := s.snapshots.tail, draws := t.draws
            pins := { s.pins with srLoad := !s.cfg.loadActive, srClk := !s.cfg.srclkActive }
            trace := os ++ s.trace } ∧
      (∀ o ∈ os, o.isReport = false) ∧ pinWrites os = 2 + 2 * s.cfg.n ∧ delays os = 2 + 2 * s.cfg.n

/-- R103: SMP.SNAPSHOT ORs the sample of every key into that key's history, key k taking the k-th bit of the snapshot; its
pin trace is that of SMP.LATCH and then one clock pulse per key, 2 + 2N pin writes and as many delays. -/
def Obligations.SnapshotSamplesEveryKey : Prop :=
  ∀ (s : State) (m : List Bool) (ms : List (List Bool)),
    s.Sized → s.snapshots = m :: ms → m.length = s.cfg.n →
    ∃ (t : State) (os : List Output), exec .smpSnapshot s = .next t ∧
      (∀ k : KeyIndex, k.toNat < s.cfg.n → t.histAt k = s.comparedHist m k) ∧
      t.Sized ∧ t.chain = [] ∧ t.draws = s.draws ∧
      t.trace = os.reverse ++ s.trace ∧
      os = [.pin .srLoad s.cfg.loadActive, .delay, .pin .srLoad (!s.cfg.loadActive), .delay] ++
        (List.replicate s.cfg.n
          [.pin .srClk s.cfg.srclkActive, .delay, .pin .srClk (!s.cfg.srclkActive), .delay]).flatten ∧
      pinWrites os = 2 + 2 * s.cfg.n ∧ delays os = 2 + 2 * s.cfg.n

/-! ### Debounce Filter -/

/-- R105, R106, R107: the three outcomes write one edge and nothing else. -/
def Obligations.FilterOutcomesWriteOneEdge : Prop :=
  ∀ (s : State) (k : KeyIndex), k.toNat < s.cfg.n →
    exec (.dbnPressEdge k) s = .next { s with edge := s.edge.set k.toNat .press } ∧
    exec (.dbnReleaseEdge k) s = .next { s with edge := s.edge.set k.toNat .release } ∧
    exec (.dbnHold k) s = .next { s with edge := s.edge.set k.toNat .none }

/-- R108: DBN.SHIFT k moves bits 6 to 0 of `hist[k]` up by one, makes bit 0 zero, and writes nothing else. -/
def Obligations.ShiftAgesHistory : Prop :=
  ∀ (s : State) (k : KeyIndex), k.toNat < s.cfg.n → ∃ v : Byte,
    v.getLsbD 0 = false ∧ (∀ j : Nat, j < 7 → v.getLsbD (j + 1) = (s.histAt k).getLsbD j) ∧
    exec (.dbnShift k) s = .next { s with hist := s.hist.set k.toNat v }

/-- R105 to R109: DBN.EVAL compares every key (0x7F on a released key is a press, 0x80 on a pressed one a release, anything else
nothing), shifts every history left by one, and writes nothing but histories and edges. -/
def Obligations.EvalComparesAndShiftsEveryKey : Prop :=
  ∀ s : State, ∃ t : State, exec .dbnEval s = .next t ∧
    t = { s with hist := t.hist, edge := t.edge } ∧
    (s.Sized → t.Sized ∧ ∀ k : KeyIndex, k.toNat < s.cfg.n →
      t.edgeAt k = edgeOf (s.histAt k) (s.pressedAt k) ∧ t.histAt k = s.histAt k <<< 1)

/-- R109: running the dispatcher operation of each key immediately after its comparison gives the same state and the same
outputs as running all comparisons first and all dispatches afterwards. -/
def Obligations.InterleavedDispatchAgrees : Prop :=
  ∀ s : State, andThen (exec .dbnEval s) (dispatchKeys s.keys) = interleavedKeys s.keys s

/-! ### Dispatcher, queue, report -/

/-- R122: KEV.PRESS_MOD k sets `pressed[k]`, ORs the key's code into `mod` and sends the report; the queue and all else
are untouched. -/
def Obligations.PressModifierOrsCode : Prop :=
  ∀ (s : State) (k : KeyIndex) (e : LayoutEntry),
    s.cfg.entry? k = some e → e.isModifier = true → s.SlotsValid →
    exec (.kevPressMod k) s = .next
      { s with
        pressed := s.pressed.set k.toNat true
        modMask := s.modMask ||| e.code
        trace := .report (shownReport s.cfg s.q (s.modMask ||| e.code)) :: s.trace }

/-- R123: KEV.PRESS_KEY k (policy EVICT_OLDEST) sets `pressed[k]`, puts k in front, moves every entry one slot back, drops
the old `q[5]`, leaves `q[6]`, and sends the report; all else is untouched. -/
def Obligations.PressKeyInsertsAtFront : Prop :=
  ∀ (s : State) (k : KeyIndex),
    s.cfg.keyOfKind k false = true → s.cfg.overflowPolicy = .evictOldest → s.SlotsValid →
    exec (.kevPressKey k) s = .next
      { s with
        pressed := s.pressed.set k.toNat true
        q := ⟨k, s.q.q0, s.q.q1, s.q.q2, s.q.q3, s.q.q4, s.q.q6⟩
        trace := .report (shownReport s.cfg ⟨k, s.q.q0, s.q.q1, s.q.q2, s.q.q3, s.q.q4, s.q.q6⟩ s.modMask)
                   :: s.trace }

/-- R125: KEV.RELEASE_MOD k clears `pressed[k]`, AND-clears the key's code out of `mod` (shared bits too) and sends the
report; the queue and all else are untouched. -/
def Obligations.ReleaseModifierClearsCode : Prop :=
  ∀ (s : State) (k : KeyIndex) (e : LayoutEntry),
    s.cfg.entry? k = some e → e.isModifier = true → s.SlotsValid →
    exec (.kevReleaseMod k) s = .next
      { s with
        pressed := s.pressed.set k.toNat false
        modMask := s.modMask &&& ~~~e.code
        trace := .report (shownReport s.cfg s.q (s.modMask &&& ~~~e.code)) :: s.trace }

/-- R126: KEV.RELEASE_KEY k (policies EVICT_OLDEST and REJECT_NEWEST) clears `pressed[k]`, removes the first reported slot
that holds k, moves the slots behind it one place forward, copies `q[6]` into `q[5]`, and sends the report; R127: when k is
in no reported slot the queue is unchanged, `pressed[k]` is cleared and the report is sent all the same. -/
def Obligations.ReleaseKeyRemovesAndCompacts : Prop :=
  ∀ (s : State) (k : KeyIndex),
    s.cfg.keyOfKind k false = true → s.cfg.overflowPolicy ≠ .parkInSpare → s.SlotsValid →
    (∀ front back : List Slot, s.q.reported = front ++ k :: back → k ∉ front →
      ∃ q' : Queue, q'.slots = front ++ back ++ [s.q.q6, s.q.q6] ∧
        exec (.kevReleaseKey k) s = .next
          { s with
            pressed := s.pressed.set k.toNat false
            q := q'
            trace := .report (shownReport s.cfg q' s.modMask) :: s.trace }) ∧
    (k ∉ s.q.reported →
      exec (.kevReleaseKey k) s = .next
        { s with
          pressed := s.pressed.set k.toNat false
          trace := .report (shownReport s.cfg s.q s.modMask) :: s.trace })

/-- R124: under REJECT_NEWEST a press enters the queue only if `q[5]` is empty; the key is pressed and the report sent
either way. -/
def Obligations.RejectNewestPress : Prop :=
  ∀ (s : State) (k : KeyIndex),
    s.cfg.keyOfKind k false = true → s.cfg.overflowPolicy = .rejectNewest → s.SlotsValid →
    ∃ q' : Queue,
      q' = (if s.q.q5 = 0xFF#8 then ⟨k, s.q.q0, s.q.q1, s.q.q2, s.q.q3, s.q.q4, s.q.q6⟩ else s.q) ∧
      exec (.kevPressKey k) s = .next
        { s with
          pressed := s.pressed.set k.toNat true
          q := q'
          trace := .report (shownReport s.cfg q' s.modMask) :: s.trace }

/-- R124: under PARK_IN_SPARE a press moves all seven slots, and a release removes the key from whichever of the seven
slots holds it first, compacts, and writes EMPTY to `q[6]`; a key in no slot leaves the queue as it is (log entry 17). -/
def Obligations.ParkInSparePressAndRelease : Prop :=
  ∀ (s : State) (k : KeyIndex),
    s.cfg.keyOfKind k false = true → s.cfg.overflowPolicy = .parkInSpare → s.SlotsValid →
    (exec (.kevPressKey k) s = .next
      { s with
        pressed := s.pressed.set k.toNat true
        q := ⟨k, s.q.q0, s.q.q1, s.q.q2, s.q.q3, s.q.q4, s.q.q5⟩
        trace := .report (shownReport s.cfg ⟨k, s.q.q0, s.q.q1, s.q.q2, s.q.q3, s.q.q4, s.q.q5⟩ s.modMask)
                   :: s.trace }) ∧
    (∃ q' : Queue,
      q'.slots = (if k ∈ s.q.slots then s.q.slots.erase k ++ [0xFF#8] else s.q.slots) ∧
      exec (.kevReleaseKey k) s = .next
        { s with
          pressed := s.pressed.set k.toNat false
          q := q'
          trace := .report (shownReport s.cfg q' s.modMask) :: s.trace })

/-- R128: RPT.SEND hands the report of `q[0..5]` and `mod` to the sink and changes nothing else, when every reported slot
holds a key index or EMPTY; when one does not (unreachable from reset), it is refused (R92 "treat as refused"; DESIGN
CHOICE, log entry 10). -/
def Obligations.SendReportsQueueAndMask : Prop :=
  ∀ s : State,
    ((∀ v ∈ s.q.reported, v = 0xFF#8 ∨ v.toNat < s.cfg.n) →
      exec .rptSend s = .next { s with trace := .report (shownReport s.cfg s.q s.modMask) :: s.trace }) ∧
    (∀ v ∈ s.q.reported, v ≠ 0xFF#8 → ¬ v.toNat < s.cfg.n →
      exec .rptSend s = .refused .slotOutOfRange)

/-- R121, R85: in the DISPATCH loop the edge of a key and its layout entry select one of the four dispatcher operations, or
none, and the edge is consumed; the loop takes the keys one after another. -/
def Obligations.DispatchSelectsByEdgeAndKind : Prop :=
  (∀ (s : State) (k : KeyIndex) (e : LayoutEntry), s.cfg.entry? k = some e →
    dispatchKeys [k] s =
      andThen
        (match s.edgeAt k, e.isModifier with
         | .press, false => exec (.kevPressKey k) s
         | .press, true => exec (.kevPressMod k) s
         | .release, false => exec (.kevReleaseKey k) s
         | .release, true => exec (.kevReleaseMod k) s
         | .none, _ => .next s)
        fun t => .next { t with edge := t.edge.set k.toNat .none }) ∧
  (∀ (s : State) (ks ls : List KeyIndex),
    dispatchKeys (ks ++ ls) s = andThen (dispatchKeys ks s) (dispatchKeys ls))

/-- An operation on a key that does not exist, or a dispatcher operation on a key of the other kind, is refused (log entry
9). -/
def Obligations.WrongKeysAreRefused : Prop :=
  (∀ (s : State) (k : KeyIndex), ¬ k.toNat < s.cfg.n →
    ∀ i ∈ [Instr.smpRead k, .dbnPressEdge k, .dbnReleaseEdge k, .dbnHold k, .dbnShift k, .kevPressKey k,
           .kevPressMod k, .kevReleaseKey k, .kevReleaseMod k],
      exec i s = .refused .keyOutOfRange) ∧
  (∀ (s : State) (k : KeyIndex) (e : LayoutEntry), s.cfg.entry? k = some e →
    (e.isModifier = true → exec (.kevPressKey k) s = .refused .keyOfOtherKind ∧
      exec (.kevReleaseKey k) s = .refused .keyOfOtherKind) ∧
    (e.isModifier = false → exec (.kevPressMod k) s = .refused .keyOfOtherKind ∧
      exec (.kevReleaseMod k) s = .refused .keyOfOtherKind))

/-- R132: press A, press B, release A, press C, from an empty queue, leaves `[C, B]`. -/
def Obligations.PressReleaseRoundTrip : Prop :=
  ∀ (s : State) (a b c : KeyIndex),
    s.cfg.overflowPolicy = .evictOldest → s.q.slots = List.replicate 7 0xFF#8 →
    s.cfg.keyOfKind a false = true → s.cfg.keyOfKind b false = true → s.cfg.keyOfKind c false = true →
    a ≠ b →
    ∃ t : State,
      andThen (andThen (andThen (exec (.kevPressKey a) s) (exec (.kevPressKey b)))
        (exec (.kevReleaseKey a))) (exec (.kevPressKey c)) = .next t ∧
      t.q.slots = [c, b, 0xFF#8, 0xFF#8, 0xFF#8, 0xFF#8, 0xFF#8]

/-- R131: with six live entries the press of a seventh key evicts the oldest: it is in no slot afterwards, and is still
recorded as pressed. -/
def Obligations.SeventhPressEvictsOldest : Prop :=
  ∀ (s : State) (k : KeyIndex),
    s.cfg.overflowPolicy = .evictOldest → s.QueueOk → s.q.q5 ≠ 0xFF#8 → k ∉ s.q.slots →
    s.cfg.keyOfKind k false = true →
    ∃ t : State, exec (.kevPressKey k) s = .next t ∧
      s.q.q5 ∉ t.q.slots ∧ t.pressedAt s.q.q5 = true ∧
      t.q.reported = [k, s.q.q0, s.q.q1, s.q.q2, s.q.q3, s.q.q4]

/-! ### LED driver -/

/-- R141: LED.UPDATE reads the lock byte once and sets channels 9, 10 and 11 from its bits 0, 1 and 2; the other 21
entries, and all else, are not written. -/
def Obligations.LedUpdateSetsLockChannels : Prop :=
  ∀ s : State, ∃ (lock : Byte) (t : State),
    (∀ (b : Byte) (bs : List Byte), s.locks = b :: bs → lock = b) ∧
    exec .ledUpdate s = .next t ∧
    t.gs[9] = (if lock.getLsbD 0 = true then 0xFFF#12 else 0x000#12) ∧
    t.gs[10] = (if lock.getLsbD 1 = true then 0xFFF#12 else 0x000#12) ∧
    t.gs[11] = (if lock.getLsbD 2 = true then 0xFFF#12 else 0x000#12) ∧
    (∀ c : Fin 24, c ≠ 9 → c ≠ 10 → c ≠ 11 → t.gs[c] = s.gs[c]) ∧
    t = { s with
          gs := t.gs
          locks := s.locks.tail
          draws := if s.locks = [] then s.draws + 1 else s.draws }

/-- R93: bits 7 to 3 of the lock byte have no effect. -/
def Obligations.LockHighBitsIgnored : Prop :=
  ∀ (s : State) (l l' : Byte) (ls : List Byte), l &&& 0x07#8 = l' &&& 0x07#8 →
    exec .ledUpdate { s with locks := l :: ls } = exec .ledUpdate { s with locks := l' :: ls }

/-- R142: LED.BIT c, b drops the clock, drives bit b of channel c on LED_DATA, raises the clock, a delay after each;
nothing else of the CORE changes. -/
def Obligations.LedBitDrivesOneBit : Prop :=
  ∀ (s : State) (c : Fin 24) (b : Fin 12), ∃ t : State, exec (.ledBit c b) s = .next t ∧
    t = { s with
          pins := { s.pins with ledClk := true, ledData := s.gs[c].getLsbD b.val }
          ledSr := t.ledSr
          trace := [.delay, .pin .ledClk true, .delay, .pin .ledData (s.gs[c].getLsbD b.val), .delay,
                    .pin .ledClk false] ++ s.trace }

/-- R143: LED.COMMIT drops the clock, raises the latch and drops it, a delay after the first two writes only; nothing else
of the CORE changes. -/
def Obligations.LedCommitPulsesLatch : Prop :=
  ∀ s : State, ∃ t : State, exec .ledCommit s = .next t ∧
    t = { s with
          pins := { s.pins with ledClk := false, ledLatch := false }
          ledOut := t.ledOut
          trace := [.pin .ledLatch false, .delay, .pin .ledLatch true, .delay, .pin .ledClk false] ++ s.trace }

/-- R193: LED.BIT shifts the LED chain left by one and brings the bit in at bit 0, the outputs unchanged; LED.COMMIT copies
the shift register to the outputs if the latch was low, the shift register unchanged. The registers of the chain are the
spec's own reading of the device, from general knowledge (log entry 12). -/
def Obligations.LedChainFollowsPins : Prop :=
  ∀ s : State,
    (∀ (c : Fin 24) (b : Fin 12), ∃ t : State, exec (.ledBit c b) s = .next t ∧
      t.ledSr = ((s.ledSr <<< 1) ||| (if s.gs[c].getLsbD b.val = true then 1#288 else 0#288)) ∧
      t.ledOut = s.ledOut) ∧
    ∃ t : State, exec .ledCommit s = .next t ∧
      t.ledOut = (if s.pins.ledLatch = true then s.ledOut else s.ledSr) ∧ t.ledSr = s.ledSr

/-- R144, R83: LED.FRAME puts out the latch drop, the 288 bits, channel 23 first and bit 11 first, and the commit; `gs`
is not changed, nor is anything but the LED pins, the LED chain and the trace. -/
def Obligations.LedFrameEmitsEveryBit : Prop :=
  ∀ s : State, ∃ t : State, exec .ledFrame s = .next t ∧
    t.trace = (frameOutputs s.gs).reverse ++ s.trace ∧
    t = { s with
          pins := { s.pins with ledClk := false, ledLatch := false, ledData := s.gs[0].getLsbD 0 }
          ledSr := t.ledSr, ledOut := t.ledOut, trace := t.trace }

/-- R193: whatever the chain and the pins held before, after LED.FRAME the output channel c of the LED chain shows
`gs[c]`. The registers of the chain are PRESUMED (log entry 12). -/
def Obligations.LedFrameReachesOutputs : Prop :=
  ∀ s : State, ∃ t : State, exec .ledFrame s = .next t ∧
    ∀ c : Fin 24, t.ledOut.extractLsb' (12 * c.val) 12 = s.gs[c]

/-- R147: a frame makes 868 pin writes and 867 delays; LED_CLK rises 288 times and LED_LATCH once, after the last clock
rise and after the clock has been dropped; the level of LED_DATA at the p-th clock rise is frame bit p. -/
def Obligations.LedFrameOutputCounts : Prop :=
  ∀ s : State, ∃ (t : State) (before os : List Output), exec .ledFrame s = .next t ∧
    t.trace = os.reverse ++ s.trace ∧
    pinWrites os = 868 ∧ delays os = 867 ∧
    rises .ledClk s.pins.ledClk os = 288 ∧ rises .ledLatch s.pins.ledLatch os = 1 ∧
    os = before ++ [.pin .ledClk false, .delay, .pin .ledLatch true, .delay, .pin .ledLatch false] ∧
    rises .ledClk s.pins.ledClk before = 288 ∧ rises .ledLatch s.pins.ledLatch before = 0 ∧
    sampledBits s.pins.ledClk s.pins.ledData os = (List.range 288).map (frameBitAt s.gs)

/-! ### Scheduler -/

/-- R163, R164: TMR.DISABLE clears `tmr_en` and TMR.ENABLE sets it; nothing else changes. -/
def Obligations.TimerOperationsWriteEnable : Prop :=
  ∀ s : State, exec .tmrDisable s = .next { s with tmrEn := false } ∧
    exec .tmrEnable s = .next { s with tmrEn := true }

/-- R168: IDLE changes nothing. -/
def Obligations.IdleChangesNothing : Prop := ∀ s : State, exec .idle s = .next s

/-- R162, R165: TMR.FIRE is the scan when the timer is enabled, and it completes; with the timer disabled it does
nothing. -/
def Obligations.FireRunsScanWhenEnabled : Prop :=
  (∀ s : State, s.tmrEn = true → exec .tmrFire s = exec .scan s) ∧
  (∀ s : State, s.tmrEn = true → s.SlotsValid → ∃ t : State, exec .tmrFire s = .next t) ∧
  (∀ s : State, s.tmrEn = false → exec .tmrFire s = .next s)

/-- R166: SCAN is TMR.DISABLE, SMP.SNAPSHOT, DBN.EVAL, the DISPATCH loop over all keys in ascending order, LED.UPDATE,
LED.FRAME and TMR.ENABLE, in that order, with the phases 1, 2, 3, 4 and 0 between them; it runs to its end when every slot
of the queue holds a key index or EMPTY. -/
def Obligations.ScanIsThePipeline : Prop :=
  ∀ s : State,
    (s.SlotsValid → ∃ t : State, exec .scan s = .next t) ∧
    exec .scan s =
      andThen (exec .tmrDisable s) fun a =>
      andThen (exec .smpSnapshot { a with phase := .sample }) fun b =>
      andThen (exec .dbnEval { b with phase := .filter }) fun c =>
      andThen (dispatchKeys ((List.range c.cfg.n).map (BitVec.ofNat 8)) { c with phase := .dispatch }) fun d =>
      andThen (exec .ledUpdate { d with phase := .led }) fun e =>
      andThen (exec .ledFrame e) fun f => exec .tmrEnable { f with phase := .idle }

/-- R166: SCAN runs to its end from every state whose queue holds key indices; it leaves the sequencer idle and the timer
enabled, with one snapshot and one lock byte taken, no edge pending, and the parameters, LED_EN, the reserved channels,
the events to come and the operation port as they were; the outputs of the LED chain show the grayscale buffer (R193; the
registers of the chain are PRESUMED, log entry 12). -/
def Obligations.ScanRunsToItsEnd : Prop :=
  ∀ s : State, s.SlotsValid → ∃ t : State, exec .scan s = .next t ∧
    t.phase = .idle ∧ t.tmrEn = true ∧ t.SlotsValid ∧
    (∀ k : KeyIndex, k.toNat < s.cfg.n → t.edgeAt k = .none) ∧
    t.snapshots = s.snapshots.tail ∧ t.locks = s.locks.tail ∧ t.cfg = s.cfg ∧
    t.pins.ledEn = s.pins.ledEn ∧ t.events = s.events ∧ t.opPort = s.opPort ∧
    (∀ c : Fin 24, c ≠ 9 → c ≠ 10 → c ≠ 11 → t.gs[c] = s.gs[c]) ∧
    (∀ c : Fin 24, t.ledOut.extractLsb' (12 * c.val) 12 = t.gs[c])

/-- R100, R111: a scan leaves each history as the compared word, old history with the new sample in, shifted left by
one. -/
def Obligations.ScanAgesEveryHistory : Prop :=
  ∀ (s : State) (m : List Bool) (ms : List (List Bool)),
    s.Sized → s.SlotsValid → s.snapshots = m :: ms → m.length = s.cfg.n →
    ∃ t : State, exec .scan s = .next t ∧ t.Sized ∧
      ∀ k : KeyIndex, k.toNat < s.cfg.n → t.histAt k = s.comparedHist m k <<< 1

/-- R116: over a scan `pressed[k]` goes from 0 to 1 exactly when the compared history is 0x7F and from 1 to 0 exactly when
it is 0x80; it is otherwise unchanged. -/
def Obligations.ScanPressedFollowsPatterns : Prop :=
  ∀ (s : State) (m : List Bool) (ms : List (List Bool)),
    s.Sized → s.SlotsValid → s.snapshots = m :: ms → m.length = s.cfg.n →
    ∃ t : State, exec .scan s = .next t ∧
      ∀ k : KeyIndex, k.toNat < s.cfg.n →
        t.pressedAt k =
          if s.pressedAt k = false then decide (s.comparedHist m k = 0x7F#8)
          else decide (s.comparedHist m k ≠ 0x80#8)

/-- R129: a scan sends exactly one report per edge. -/
def Obligations.ScanSendsOneReportPerEdge : Prop :=
  ∀ (s : State) (m : List Bool) (ms : List (List Bool)),
    s.Sized → s.SlotsValid → s.snapshots = m :: ms → m.length = s.cfg.n →
    ∃ t : State, exec .scan s = .next t ∧
      t.reports.length = s.reports.length +
        s.keys.countP fun k => decide (edgeOf (s.comparedHist m k) (s.pressedAt k) ≠ .none)

/-- R169: the outputs of a scan are the sampler's pin trace (2 + 2N pin writes), then the reports, then the LED pin trace
(868 pin writes). -/
def Obligations.ScanOutputsInOrder : Prop :=
  ∀ s : State, s.SlotsValid → ∃ (t : State) (sampler reports leds : List Output),
    exec .scan s = .next t ∧ t.trace = leds.reverse ++ (reports.reverse ++ (sampler.reverse ++ s.trace)) ∧
    (∀ o ∈ sampler, o.isReport = false) ∧ pinWrites sampler = 2 + 2 * s.cfg.n ∧
    (∀ o ∈ reports, o.isReport = true) ∧
    leds = frameOutputs t.gs

/-! ### Whole-machine rules -/

/-- R6: no step changes a build-time parameter, N and the layout among them. -/
def Obligations.StepKeepsParameters : Prop :=
  ∀ s t : State, step s = .next t → t.cfg = s.cfg

/-- R146: LED_EN is ASSERT after reset, on every board; no operation but RESET changes its level or writes the pin; no step
writes the pin or takes it away from ASSERT (a RESET event leaves an empty trace and the pin at ASSERT). -/
def Obligations.StepKeepsLedChainEnabled : Prop :=
  (∀ p : Params, (State.resetWith p).ChainEnabled) ∧
  (∀ (i : Instr) (s t : State), i ≠ .reset → exec i s = .next t →
    t.pins.ledEn = s.pins.ledEn ∧ t.AddsNoLedEnWrite s) ∧
  (∀ s t : State, exec .reset s = .next t → t.ChainEnabled ∧ t.trace = []) ∧
  ∀ s t : State, step s = .next t →
    (s.ChainEnabled → t.ChainEnabled) ∧ (t.trace = [] ∨ t.AddsNoLedEnWrite s)

/-- R43, R93: no step lights one of the 21 reserved channels. -/
def Obligations.StepKeepsReservedChannelsDark : Prop :=
  ∀ s t : State, s.ReservedDark → step s = .next t → t.ReservedDark

/-- R25, R42: with modifier codes that share no bit, the modifier mask is the OR of the codes of the pressed modifier keys;
it is so after reset, and no step breaks it. -/
def Obligations.StepKeepsModifierMask : Prop :=
  (∀ p : Params, (State.resetWith p).ModMaskOk) ∧
  ∀ s t : State, ModifiersDisjoint s.cfg → s.Sized → s.ModMaskOk → step s = .next t → t.Sized ∧ t.ModMaskOk

/-- R37 to R44: the invariant between scans holds after reset, on every board with the spec's overflow policy. -/
def Obligations.ResetStateMeetsInvariant : Prop :=
  (∀ p : Params, p.overflowPolicy = .evictOldest → (State.resetWith p).Inv) ∧ State.reset.Inv

/-- R37 to R44: every step, a whole scan with any inputs among them, keeps the invariant between scans. -/
def Obligations.StepKeepsInvariant : Prop :=
  ∀ s t : State, s.Inv → step s = .next t → t.Inv

/-- R180, R170: from a state that meets the invariant every step answers a next state: nothing faults and nothing is
refused. -/
def Obligations.StepNeverStops : Prop :=
  ∀ s : State, s.Inv → ∃ t : State, step s = .next t

/-- The lock byte reaches the LEDs and nothing else: two scans that differ in the lock byte alone end in states that differ
at most in the grayscale buffer, the LED chain and the trace, with the same reports. -/
def Obligations.LockByteReachesOnlyLeds : Prop :=
  ∀ (s : State) (l l' : Byte) (ls : List Byte), s.SlotsValid →
    ∃ t t' : State, exec .scan { s with locks := l :: ls } = .next t ∧
      exec .scan { s with locks := l' :: ls } = .next t' ∧ t'.reports = t.reports ∧
      t' = { t with gs := t'.gs, ledSr := t'.ledSr, ledOut := t'.ledOut, trace := t'.trace }

/-- The key matrix does not reach the LEDs: two scans that differ in the snapshot alone leave the same grayscale buffer and
the same LED outputs (the outputs of the chain are those of R193, PRESUMED, log entry 12). -/
def Obligations.SamplesDoNotReachLeds : Prop :=
  ∀ (s : State) (m m' : List Bool) (ms : List (List Bool)) (l : Byte) (ls : List Byte),
    s.SlotsValid → s.locks = l :: ls →
    ∃ t t' : State, exec .scan { s with snapshots := m :: ms } = .next t ∧
      exec .scan { s with snapshots := m' :: ms } = .next t' ∧
      t'.gs = t.gs ∧ t'.ledOut = t.ledOut

/-- R112: a released key whose last sample was low, and which then reads high in seven consecutive scans, is recorded as
pressed after the seventh scan, and not after the sixth. -/
def Obligations.PressInSeventhHighScan : Prop :=
  ∀ (s : State) (k : KeyIndex) (ms : List (List Bool)) (es : List Event),
    s.Inv → k.toNat < s.cfg.n → s.pressedAt k = false → (s.histAt k).getLsbD 1 = false →
    s.events = List.replicate 7 .tick ++ es → ms.length = 7 → s.snapshots = ms →
    (∀ m ∈ ms, m.length = s.cfg.n ∧ (m.getD k.toNat false ^^ s.cfg.senseInvert) = true) →
    (∃ t : State, Host.Core.run Sys2Proof.core 6 s = .next t ∧ t.pressedAt k = false) ∧
    (∃ t : State, Host.Core.run Sys2Proof.core 7 s = .next t ∧ t.pressedAt k = true)

/-- R113: a pressed key whose last sample was high, and which then reads low in seven consecutive scans, is recorded as
released after the seventh scan, and not after the sixth. -/
def Obligations.ReleaseInSeventhLowScan : Prop :=
  ∀ (s : State) (k : KeyIndex) (ms : List (List Bool)) (es : List Event),
    s.Inv → k.toNat < s.cfg.n → s.pressedAt k = true → (s.histAt k).getLsbD 1 = true →
    s.events = List.replicate 7 .tick ++ es → ms.length = 7 → s.snapshots = ms →
    (∀ m ∈ ms, m.length = s.cfg.n ∧ (m.getD k.toNat false ^^ s.cfg.senseInvert) = false) →
    (∃ t : State, Host.Core.run Sys2Proof.core 6 s = .next t ∧ t.pressedAt k = true) ∧
    (∃ t : State, Host.Core.run Sys2Proof.core 7 s = .next t ∧ t.pressedAt k = false)
end

