-- ==== Sys2Proof/Laws/State.lean ====
section
/-! SUPPORT. What each update of the state does to each field, and reading a key's registers after writing them. -/

namespace Sys2Proof.Machine

/-! ### setHist -/

@[simp] theorem State.setHist_cfg (s : State) (k : KeyIndex) (v : Byte) : (s.setHist k v).cfg = s.cfg := rfl
@[simp] theorem State.setHist_hist (s : State) (k : KeyIndex) (v : Byte) : (s.setHist k v).hist = s.hist.set k.toNat v := rfl
@[simp] theorem State.setHist_pressed (s : State) (k : KeyIndex) (v : Byte) : (s.setHist k v).pressed = s.pressed := rfl
@[simp] theorem State.setHist_edge (s : State) (k : KeyIndex) (v : Byte) : (s.setHist k v).edge = s.edge := rfl
@[simp] theorem State.setHist_q (s : State) (k : KeyIndex) (v : Byte) : (s.setHist k v).q = s.q := rfl
@[simp] theorem State.setHist_modMask (s : State) (k : KeyIndex) (v : Byte) : (s.setHist k v).modMask = s.modMask := rfl
@[simp] theorem State.setHist_gs (s : State) (k : KeyIndex) (v : Byte) : (s.setHist k v).gs = s.gs := rfl
@[simp] theorem State.setHist_tmrEn (s : State) (k : KeyIndex) (v : Byte) : (s.setHist k v).tmrEn = s.tmrEn := rfl
@[simp] theorem State.setHist_phase (s : State) (k : KeyIndex) (v : Byte) : (s.setHist k v).phase = s.phase := rfl
@[simp] theorem State.setHist_pins (s : State) (k : KeyIndex) (v : Byte) : (s.setHist k v).pins = s.pins := rfl
@[simp] theorem State.setHist_trace (s : State) (k : KeyIndex) (v : Byte) : (s.setHist k v).trace = s.trace := rfl
@[simp] theorem State.setHist_ledSr (s : State) (k : KeyIndex) (v : Byte) : (s.setHist k v).ledSr = s.ledSr := rfl
@[simp] theorem State.setHist_ledOut (s : State) (k : KeyIndex) (v : Byte) : (s.setHist k v).ledOut = s.ledOut := rfl
@[simp] theorem State.setHist_chain (s : State) (k : KeyIndex) (v : Byte) : (s.setHist k v).chain = s.chain := rfl
@[simp] theorem State.setHist_snapshots (s : State) (k : KeyIndex) (v : Byte) : (s.setHist k v).snapshots = s.snapshots := rfl
@[simp] theorem State.setHist_locks (s : State) (k : KeyIndex) (v : Byte) : (s.setHist k v).locks = s.locks := rfl
@[simp] theorem State.setHist_events (s : State) (k : KeyIndex) (v : Byte) : (s.setHist k v).events = s.events := rfl
@[simp] theorem State.setHist_opPort (s : State) (k : KeyIndex) (v : Byte) : (s.setHist k v).opPort = s.opPort := rfl
@[simp] theorem State.setHist_draws (s : State) (k : KeyIndex) (v : Byte) : (s.setHist k v).draws = s.draws := rfl

/-! ### setPressed -/

@[simp] theorem State.setPressed_cfg (s : State) (k : KeyIndex) (v : Bool) : (s.setPressed k v).cfg = s.cfg := rfl
@[simp] theorem State.setPressed_hist (s : State) (k : KeyIndex) (v : Bool) : (s.setPressed k v).hist = s.hist := rfl
@[simp] theorem State.setPressed_pressed (s : State) (k : KeyIndex) (v : Bool) : (s.setPressed k v).pressed = s.pressed.set k.toNat v := rfl
@[simp] theorem State.setPressed_edge (s : State) (k : KeyIndex) (v : Bool) : (s.setPressed k v).edge = s.edge := rfl
@[simp] theorem State.setPressed_q (s : State) (k : KeyIndex) (v : Bool) : (s.setPressed k v).q = s.q := rfl
@[simp] theorem State.setPressed_modMask (s : State) (k : KeyIndex) (v : Bool) : (s.setPressed k v).modMask = s.modMask := rfl
@[simp] theorem State.setPressed_gs (s : State) (k : KeyIndex) (v : Bool) : (s.setPressed k v).gs = s.gs := rfl
@[simp] theorem State.setPressed_tmrEn (s : State) (k : KeyIndex) (v : Bool) : (s.setPressed k v).tmrEn = s.tmrEn := rfl
@[simp] theorem State.setPressed_phase (s : State) (k : KeyIndex) (v : Bool) : (s.setPressed k v).phase = s.phase := rfl
@[simp] theorem State.setPressed_pins (s : State) (k : KeyIndex) (v : Bool) : (s.setPressed k v).pins = s.pins := rfl
@[simp] theorem State.setPressed_trace (s : State) (k : KeyIndex) (v : Bool) : (s.setPressed k v).trace = s.trace := rfl
@[simp] theorem State.setPressed_ledSr (s : State) (k : KeyIndex) (v : Bool) : (s.setPressed k v).ledSr = s.ledSr := rfl
@[simp] theorem State.setPressed_ledOut (s : State) (k : KeyIndex) (v : Bool) : (s.setPressed k v).ledOut = s.ledOut := rfl
@[simp] theorem State.setPressed_chain (s : State) (k : KeyIndex) (v : Bool) : (s.setPressed k v).chain = s.chain := rfl
@[simp] theorem State.setPressed_snapshots (s : State) (k : KeyIndex) (v : Bool) : (s.setPressed k v).snapshots = s.snapshots := rfl
@[simp] theorem State.setPressed_locks (s : State) (k : KeyIndex) (v : Bool) : (s.setPressed k v).locks = s.locks := rfl
@[simp] theorem State.setPressed_events (s : State) (k : KeyIndex) (v : Bool) : (s.setPressed k v).events = s.events := rfl
@[simp] theorem State.setPressed_opPort (s : State) (k : KeyIndex) (v : Bool) : (s.setPressed k v).opPort = s.opPort := rfl
@[simp] theorem State.setPressed_draws (s : State) (k : KeyIndex) (v : Bool) : (s.setPressed k v).draws = s.draws := rfl

/-! ### setEdge -/

@[simp] theorem State.setEdge_cfg (s : State) (k : KeyIndex) (e : Edge) : (s.setEdge k e).cfg = s.cfg := rfl
@[simp] theorem State.setEdge_hist (s : State) (k : KeyIndex) (e : Edge) : (s.setEdge k e).hist = s.hist := rfl
@[simp] theorem State.setEdge_pressed (s : State) (k : KeyIndex) (e : Edge) : (s.setEdge k e).pressed = s.pressed := rfl
@[simp] theorem State.setEdge_edge (s : State) (k : KeyIndex) (e : Edge) : (s.setEdge k e).edge = s.edge.set k.toNat e := rfl
@[simp] theorem State.setEdge_q (s : State) (k : KeyIndex) (e : Edge) : (s.setEdge k e).q = s.q := rfl
@[simp] theorem State.setEdge_modMask (s : State) (k : KeyIndex) (e : Edge) : (s.setEdge k e).modMask = s.modMask := rfl
@[simp] theorem State.setEdge_gs (s : State) (k : KeyIndex) (e : Edge) : (s.setEdge k e).gs = s.gs := rfl
@[simp] theorem State.setEdge_tmrEn (s : State) (k : KeyIndex) (e : Edge) : (s.setEdge k e).tmrEn = s.tmrEn := rfl
@[simp] theorem State.setEdge_phase (s : State) (k : KeyIndex) (e : Edge) : (s.setEdge k e).phase = s.phase := rfl
@[simp] theorem State.setEdge_pins (s : State) (k : KeyIndex) (e : Edge) : (s.setEdge k e).pins = s.pins := rfl
@[simp] theorem State.setEdge_trace (s : State) (k : KeyIndex) (e : Edge) : (s.setEdge k e).trace = s.trace := rfl
@[simp] theorem State.setEdge_ledSr (s : State) (k : KeyIndex) (e : Edge) : (s.setEdge k e).ledSr = s.ledSr := rfl
@[simp] theorem State.setEdge_ledOut (s : State) (k : KeyIndex) (e : Edge) : (s.setEdge k e).ledOut = s.ledOut := rfl
@[simp] theorem State.setEdge_chain (s : State) (k : KeyIndex) (e : Edge) : (s.setEdge k e).chain = s.chain := rfl
@[simp] theorem State.setEdge_snapshots (s : State) (k : KeyIndex) (e : Edge) : (s.setEdge k e).snapshots = s.snapshots := rfl
@[simp] theorem State.setEdge_locks (s : State) (k : KeyIndex) (e : Edge) : (s.setEdge k e).locks = s.locks := rfl
@[simp] theorem State.setEdge_events (s : State) (k : KeyIndex) (e : Edge) : (s.setEdge k e).events = s.events := rfl
@[simp] theorem State.setEdge_opPort (s : State) (k : KeyIndex) (e : Edge) : (s.setEdge k e).opPort = s.opPort := rfl
@[simp] theorem State.setEdge_draws (s : State) (k : KeyIndex) (e : Edge) : (s.setEdge k e).draws = s.draws := rfl

/-! ### setPhase -/

@[simp] theorem State.setPhase_cfg (s : State) (p : Phase) : (s.setPhase p).cfg = s.cfg := rfl
@[simp] theorem State.setPhase_hist (s : State) (p : Phase) : (s.setPhase p).hist = s.hist := rfl
@[simp] theorem State.setPhase_pressed (s : State) (p : Phase) : (s.setPhase p).pressed = s.pressed := rfl
@[simp] theorem State.setPhase_edge (s : State) (p : Phase) : (s.setPhase p).edge = s.edge := rfl
@[simp] theorem State.setPhase_q (s : State) (p : Phase) : (s.setPhase p).q = s.q := rfl
@[simp] theorem State.setPhase_modMask (s : State) (p : Phase) : (s.setPhase p).modMask = s.modMask := rfl
@[simp] theorem State.setPhase_gs (s : State) (p : Phase) : (s.setPhase p).gs = s.gs := rfl
@[simp] theorem State.setPhase_tmrEn (s : State) (p : Phase) : (s.setPhase p).tmrEn = s.tmrEn := rfl
@[simp] theorem State.setPhase_phase (s : State) (p : Phase) : (s.setPhase p).phase = p := rfl
@[simp] theorem State.setPhase_pins (s : State) (p : Phase) : (s.setPhase p).pins = s.pins := rfl
@[simp] theorem State.setPhase_trace (s : State) (p : Phase) : (s.setPhase p).trace = s.trace := rfl
@[simp] theorem State.setPhase_ledSr (s : State) (p : Phase) : (s.setPhase p).ledSr = s.ledSr := rfl
@[simp] theorem State.setPhase_ledOut (s : State) (p : Phase) : (s.setPhase p).ledOut = s.ledOut := rfl
@[simp] theorem State.setPhase_chain (s : State) (p : Phase) : (s.setPhase p).chain = s.chain := rfl
@[simp] theorem State.setPhase_snapshots (s : State) (p : Phase) : (s.setPhase p).snapshots = s.snapshots := rfl
@[simp] theorem State.setPhase_locks (s : State) (p : Phase) : (s.setPhase p).locks = s.locks := rfl
@[simp] theorem State.setPhase_events (s : State) (p : Phase) : (s.setPhase p).events = s.events := rfl
@[simp] theorem State.setPhase_opPort (s : State) (p : Phase) : (s.setPhase p).opPort = s.opPort := rfl
@[simp] theorem State.setPhase_draws (s : State) (p : Phase) : (s.setPhase p).draws = s.draws := rfl

/-! ### emit -/

@[simp] theorem State.emit_cfg (s : State) (o : Output) : (s.emit o).cfg = s.cfg := rfl
@[simp] theorem State.emit_hist (s : State) (o : Output) : (s.emit o).hist = s.hist := rfl
@[simp] theorem State.emit_pressed (s : State) (o : Output) : (s.emit o).pressed = s.pressed := rfl
@[simp] theorem State.emit_edge (s : State) (o : Output) : (s.emit o).edge = s.edge := rfl
@[simp] theorem State.emit_q (s : State) (o : Output) : (s.emit o).q = s.q := rfl
@[simp] theorem State.emit_modMask (s : State) (o : Output) : (s.emit o).modMask = s.modMask := rfl
@[simp] theorem State.emit_gs (s : State) (o : Output) : (s.emit o).gs = s.gs := rfl
@[simp] theorem State.emit_tmrEn (s : State) (o : Output) : (s.emit o).tmrEn = s.tmrEn := rfl
@[simp] theorem State.emit_phase (s : State) (o : Output) : (s.emit o).phase = s.phase := rfl
@[simp] theorem State.emit_pins (s : State) (o : Output) : (s.emit o).pins = s.pins := rfl
@[simp] theorem State.emit_trace (s : State) (o : Output) : (s.emit o).trace = o :: s.trace := rfl
@[simp] theorem State.emit_ledSr (s : State) (o : Output) : (s.emit o).ledSr = s.ledSr := rfl
@[simp] theorem State.emit_ledOut (s : State) (o : Output) : (s.emit o).ledOut = s.ledOut := rfl
@[simp] theorem State.emit_chain (s : State) (o : Output) : (s.emit o).chain = s.chain := rfl
@[simp] theorem State.emit_snapshots (s : State) (o : Output) : (s.emit o).snapshots = s.snapshots := rfl
@[simp] theorem State.emit_locks (s : State) (o : Output) : (s.emit o).locks = s.locks := rfl
@[simp] theorem State.emit_events (s : State) (o : Output) : (s.emit o).events = s.events := rfl
@[simp] theorem State.emit_opPort (s : State) (o : Output) : (s.emit o).opPort = s.opPort := rfl
@[simp] theorem State.emit_draws (s : State) (o : Output) : (s.emit o).draws = s.draws := rfl

/-! ### offer -/

@[simp] theorem State.offer_cfg (s : State) (bs : List Byte) : (s.offer bs).cfg = s.cfg := rfl
@[simp] theorem State.offer_hist (s : State) (bs : List Byte) : (s.offer bs).hist = s.hist := rfl
@[simp] theorem State.offer_pressed (s : State) (bs : List Byte) : (s.offer bs).pressed = s.pressed := rfl
@[simp] theorem State.offer_edge (s : State) (bs : List Byte) : (s.offer bs).edge = s.edge := rfl
@[simp] theorem State.offer_q (s : State) (bs : List Byte) : (s.offer bs).q = s.q := rfl
@[simp] theorem State.offer_modMask (s : State) (bs : List Byte) : (s.offer bs).modMask = s.modMask := rfl
@[simp] theorem State.offer_gs (s : State) (bs : List Byte) : (s.offer bs).gs = s.gs := rfl
@[simp] theorem State.offer_tmrEn (s : State) (bs : List Byte) : (s.offer bs).tmrEn = s.tmrEn := rfl
@[simp] theorem State.offer_phase (s : State) (bs : List Byte) : (s.offer bs).phase = s.phase := rfl
@[simp] theorem State.offer_pins (s : State) (bs : List Byte) : (s.offer bs).pins = s.pins := rfl
@[simp] theorem State.offer_trace (s : State) (bs : List Byte) : (s.offer bs).trace = s.trace := rfl
@[simp] theorem State.offer_ledSr (s : State) (bs : List Byte) : (s.offer bs).ledSr = s.ledSr := rfl
@[simp] theorem State.offer_ledOut (s : State) (bs : List Byte) : (s.offer bs).ledOut = s.ledOut := rfl
@[simp] theorem State.offer_chain (s : State) (bs : List Byte) : (s.offer bs).chain = s.chain := rfl
@[simp] theorem State.offer_snapshots (s : State) (bs : List Byte) : (s.offer bs).snapshots = s.snapshots := rfl
@[simp] theorem State.offer_locks (s : State) (bs : List Byte) : (s.offer bs).locks = s.locks := rfl
@[simp] theorem State.offer_events (s : State) (bs : List Byte) : (s.offer bs).events = s.events := rfl
@[simp] theorem State.offer_opPort (s : State) (bs : List Byte) : (s.offer bs).opPort = bs := rfl
@[simp] theorem State.offer_draws (s : State) (bs : List Byte) : (s.offer bs).draws = s.draws := rfl

/-- A register of key k reads as it was written, if the key has one. -/
theorem State.histAt_setHist_same (s : State) (k : KeyIndex) (v : Byte) (h : k.toNat < s.hist.length) :
    (s.setHist k v).histAt k = v := by
  simp [State.histAt, List.getD_eq_getElem?_getD, h]

/-- A write for one key leaves the register of every other key alone. -/
theorem State.histAt_setHist_ne (s : State) (j k : KeyIndex) (v : Byte) (h : j ≠ k) :
    (s.setHist j v).histAt k = s.histAt k := by
  have hn : j.toNat ≠ k.toNat := fun e => h (BitVec.eq_of_toNat_eq e)
  simp [State.histAt, List.getD_eq_getElem?_getD, List.getElem?_set_ne hn]

/-- A register of key k reads as it was written, if the key has one. -/
theorem State.pressedAt_setPressed_same (s : State) (k : KeyIndex) (v : Bool) (h : k.toNat < s.pressed.length) :
    (s.setPressed k v).pressedAt k = v := by
  simp [State.pressedAt, List.getD_eq_getElem?_getD, h]

/-- A write for one key leaves the register of every other key alone. -/
theorem State.pressedAt_setPressed_ne (s : State) (j k : KeyIndex) (v : Bool) (h : j ≠ k) :
    (s.setPressed j v).pressedAt k = s.pressedAt k := by
  have hn : j.toNat ≠ k.toNat := fun e => h (BitVec.eq_of_toNat_eq e)
  simp [State.pressedAt, List.getD_eq_getElem?_getD, List.getElem?_set_ne hn]

/-- A register of key k reads as it was written, if the key has one. -/
theorem State.edgeAt_setEdge_same (s : State) (k : KeyIndex) (v : Edge) (h : k.toNat < s.edge.length) :
    (s.setEdge k v).edgeAt k = v := by
  simp [State.edgeAt, List.getD_eq_getElem?_getD, h]

/-- A write for one key leaves the register of every other key alone. -/
theorem State.edgeAt_setEdge_ne (s : State) (j k : KeyIndex) (v : Edge) (h : j ≠ k) :
    (s.setEdge j v).edgeAt k = s.edgeAt k := by
  have hn : j.toNat ≠ k.toNat := fun e => h (BitVec.eq_of_toNat_eq e)
  simp [State.edgeAt, List.getD_eq_getElem?_getD, List.getElem?_set_ne hn]

@[simp] theorem State.histAt_setPressed (s : State) (j : KeyIndex) (k : KeyIndex) (v : Bool) :
    (s.setPressed k v).histAt j = s.histAt j := rfl
@[simp] theorem State.histAt_setEdge (s : State) (j : KeyIndex) (k : KeyIndex) (e : Edge) :
    (s.setEdge k e).histAt j = s.histAt j := rfl
@[simp] theorem State.histAt_setPhase (s : State) (j : KeyIndex) (p : Phase) :
    (s.setPhase p).histAt j = s.histAt j := rfl
@[simp] theorem State.histAt_emit (s : State) (j : KeyIndex) (o : Output) :
    (s.emit o).histAt j = s.histAt j := rfl
@[simp] theorem State.histAt_offer (s : State) (j : KeyIndex) (bs : List Byte) :
    (s.offer bs).histAt j = s.histAt j := rfl
@[simp] theorem State.pressedAt_setHist (s : State) (j : KeyIndex) (k : KeyIndex) (v : Byte) :
    (s.setHist k v).pressedAt j = s.pressedAt j := rfl
@[simp] theorem State.pressedAt_setEdge (s : State) (j : KeyIndex) (k : KeyIndex) (e : Edge) :
    (s.setEdge k e).pressedAt j = s.pressedAt j := rfl
@[simp] theorem State.pressedAt_setPhase (s : State) (j : KeyIndex) (p : Phase) :
    (s.setPhase p).pressedAt j = s.pressedAt j := rfl
@[simp] theorem State.pressedAt_emit (s : State) (j : KeyIndex) (o : Output) :
    (s.emit o).pressedAt j = s.pressedAt j := rfl
@[simp] theorem State.pressedAt_offer (s : State) (j : KeyIndex) (bs : List Byte) :
    (s.offer bs).pressedAt j = s.pressedAt j := rfl
@[simp] theorem State.edgeAt_setHist (s : State) (j : KeyIndex) (k : KeyIndex) (v : Byte) :
    (s.setHist k v).edgeAt j = s.edgeAt j := rfl
@[simp] theorem State.edgeAt_setPressed (s : State) (j : KeyIndex) (k : KeyIndex) (v : Bool) :
    (s.setPressed k v).edgeAt j = s.edgeAt j := rfl
@[simp] theorem State.edgeAt_setPhase (s : State) (j : KeyIndex) (p : Phase) :
    (s.setPhase p).edgeAt j = s.edgeAt j := rfl
@[simp] theorem State.edgeAt_emit (s : State) (j : KeyIndex) (o : Output) :
    (s.emit o).edgeAt j = s.edgeAt j := rfl
@[simp] theorem State.edgeAt_offer (s : State) (j : KeyIndex) (bs : List Byte) :
    (s.offer bs).edgeAt j = s.edgeAt j := rfl

end Sys2Proof.Machine
end

