-- ==== Sys2Proof/Laws/Ops.lean ====
section
/-! SUPPORT. One lemma per shared operation that says what it can do. -/

namespace Sys2Proof.Machine

/-! ### Sequencing and guards -/

@[simp] theorem andThen_next (s : State) (f : State → Result) : andThen (.next s) f = f s := rfl

@[simp] theorem andThen_refused (r : Refusal) (f : State → Result) :
    andThen (.refused r) f = .refused r := rfl

/-- A sequence that answers a state ran both parts. -/
theorem andThen_eq_next {r : Result} {f : State → Result} {t : State} (h : andThen r f = .next t) :
    ∃ u, r = .next u ∧ f u = .next t := by
  cases r with
  | next u => exact ⟨u, rfl, h⟩
  | fault e => cases e
  | refused e => cases h

/-- The key test is the comparison k < N. -/
theorem hasKey_iff (p : Params) (k : KeyIndex) : p.hasKey k = true ↔ k.toNat < p.n := by
  constructor
  · intro h
    simp only [Params.hasKey, Bool.or_eq_true, beq_iff_eq, decide_eq_true_eq] at h
    rcases h with rfl | h
    · simp [Params.n, Params.rows, Params.cols]
    · exact h
  · intro h
    simp [Params.hasKey, h]

/-- A key has a layout entry exactly if k < N. -/
theorem entry?_isSome_iff (p : Params) (k : KeyIndex) : (p.entry? k).isSome = true ↔ k.toNat < p.n := by
  simp [Params.entry?, Params.n, Params.rows, Params.cols]

/-- N is between 1 and 255. -/
theorem n_bounds (p : Params) : 1 ≤ p.n ∧ p.n ≤ 255 := by
  have hr := p.lastRow.isLt
  have hc := p.lastCol.isLt
  have hd := Nat.mul_div_le (254 - p.lastRow.val) (p.lastRow.val + 1)
  have hm := Nat.mul_le_mul_left (p.lastRow.val + 1) (Nat.le_of_lt_succ hc)
  simp only [Params.n, Params.rows, Params.cols, Nat.mul_succ]
  omega

theorem onKey_of_lt {k : KeyIndex} {s : State} (h : k.toNat < s.cfg.n) (f : State → Result) :
    onKey k s f = f s := by
  simp [onKey, (hasKey_iff s.cfg k).2 h]

theorem onKey_of_not_lt {k : KeyIndex} {s : State} (h : ¬ k.toNat < s.cfg.n) (f : State → Result) :
    onKey k s f = .refused .keyOutOfRange := by
  have hn : ¬ s.cfg.hasKey k = true := fun e => h ((hasKey_iff s.cfg k).1 e)
  simp [onKey, hn]

theorem onKeyOfKind_of_entry {m : Bool} {k : KeyIndex} {s : State} {e : LayoutEntry}
    (h : s.cfg.entry? k = some e) (hm : e.isModifier = m) (f : LayoutEntry → State → Result) :
    onKeyOfKind m k s f = f e s := by
  simp [onKeyOfKind, h, hm]

/-- An operation on a key of a kind that answers a state had such a key. -/
theorem onKeyOfKind_eq_next {m : Bool} {k : KeyIndex} {s t : State} {f : LayoutEntry → State → Result}
    (h : onKeyOfKind m k s f = .next t) :
    ∃ e, s.cfg.entry? k = some e ∧ e.isModifier = m ∧ f e s = .next t := by
  unfold onKeyOfKind at h
  split at h
  · cases h
  · rename_i e he
    split at h
    · exact ⟨e, he, ‹_›, h⟩
    · cases h

/-! ### The keys of a board -/

/-- The loop over the keys meets exactly the key indices below N. -/
theorem mem_keys {s : State} {k : KeyIndex} : k ∈ s.keys ↔ k.toNat < s.cfg.n := by
  have hb := n_bounds s.cfg
  simp only [State.keys, List.mem_map, List.mem_range]
  constructor
  · rintro ⟨i, hi, rfl⟩
    simpa [Nat.mod_eq_of_lt (by omega : i < 256)] using hi
  · intro h
    exact ⟨k.toNat, h, by simp⟩

/-- The loop over the keys meets no key twice. -/
theorem keys_nodup (s : State) : s.keys.Nodup := by
  have hb := n_bounds s.cfg
  refine List.Nodup.map_on ?_ List.nodup_range
  intro x hx y hy hxy
  simp only [List.mem_range] at hx hy
  have := congrArg BitVec.toNat hxy
  simpa [Nat.mod_eq_of_lt (by omega : x < 256), Nat.mod_eq_of_lt (by omega : y < 256)] using this

/-! ### Pins -/

/-- Writing a pin whose device does not react. -/
theorem pinWrite_ledData (v : Bool) (s : State) :
    pinWrite .ledData v s =
      { s with pins := { s.pins with ledData := v }, trace := .pin .ledData v :: s.trace } := rfl

/-- Asserting SR_LOAD loads the chain with the next snapshot. -/
theorem pinWrite_srLoad_assert (s : State) :
    pinWrite .srLoad s.cfg.loadActive s =
      { s with pins := { s.pins with srLoad := s.cfg.loadActive }
               trace := .pin .srLoad s.cfg.loadActive :: s.trace
               chain := s.snapshots.headD []
               snapshots := s.snapshots.tail } := by
  cases h : s.snapshots <;> simp [pinWrite, deviceReacts, loadChain, Pins.set, State.emit, h]

/-- De-asserting SR_LOAD moves nothing in the chain. -/
theorem pinWrite_srLoad_deassert (s : State) :
    pinWrite .srLoad (!s.cfg.loadActive) s =
      { s with pins := { s.pins with srLoad := !s.cfg.loadActive }
               trace := .pin .srLoad (!s.cfg.loadActive) :: s.trace } := by
  cases h : s.cfg.loadActive <;> simp [pinWrite, deviceReacts, Pins.set, State.emit, h]

/-- Asserting SR_CLK advances the chain by one bit. -/
theorem pinWrite_srClk_assert (s : State) :
    pinWrite .srClk s.cfg.srclkActive s =
      { s with pins := { s.pins with srClk := s.cfg.srclkActive }
               trace := .pin .srClk s.cfg.srclkActive :: s.trace
               chain := s.chain.tail } := by
  simp [pinWrite, deviceReacts, advanceChain, Pins.set, State.emit]

/-- De-asserting SR_CLK moves nothing in the chain. -/
theorem pinWrite_srClk_deassert (s : State) :
    pinWrite .srClk (!s.cfg.srclkActive) s =
      { s with pins := { s.pins with srClk := !s.cfg.srclkActive }
               trace := .pin .srClk (!s.cfg.srclkActive) :: s.trace } := by
  cases h : s.cfg.srclkActive <;> simp [pinWrite, deviceReacts, Pins.set, State.emit, h]

/-- LED_CLK low is never a rising edge. -/
theorem pinWrite_ledClk_low (s : State) :
    pinWrite .ledClk false s =
      { s with pins := { s.pins with ledClk := false }, trace := .pin .ledClk false :: s.trace } := by
  simp [pinWrite, deviceReacts, Pins.set, State.emit]

/-- LED_CLK high after low shifts the LED chain. -/
theorem pinWrite_ledClk_rise (s : State) (h : s.pins.ledClk = false) :
    pinWrite .ledClk true s =
      { s with pins := { s.pins with ledClk := true }
               trace := .pin .ledClk true :: s.trace
               ledSr := (s.ledSr <<< 1) ||| (BitVec.ofBool s.pins.ledData).setWidth 288 } := by
  simp [pinWrite, deviceReacts, shiftLedChain, Pins.set, Pins.get, State.emit, h]

/-- LED_LATCH low is never a rising edge. -/
theorem pinWrite_ledLatch_low (s : State) :
    pinWrite .ledLatch false s =
      { s with pins := { s.pins with ledLatch := false }, trace := .pin .ledLatch false :: s.trace } := by
  simp [pinWrite, deviceReacts, Pins.set, State.emit]

/-- LED_LATCH high: the outputs take the shift register if it was low. -/
theorem pinWrite_ledLatch_high (s : State) :
    pinWrite .ledLatch true s =
      { s with pins := { s.pins with ledLatch := true }
               trace := .pin .ledLatch true :: s.trace
               ledOut := if s.pins.ledLatch then s.ledOut else s.ledSr } := by
  cases h : s.pins.ledLatch <;>
    simp [pinWrite, deviceReacts, latchLedChain, Pins.set, Pins.get, State.emit, h]

@[simp] theorem loadChain_cfg (s : State) : (loadChain s).cfg = s.cfg := by
  unfold loadChain
  split <;> rfl

/-- No device writes the parameters. -/
@[simp] theorem deviceReacts_cfg (p : Pin) (old new : Bool) (s : State) :
    (deviceReacts p old new s).cfg = s.cfg := by
  unfold deviceReacts
  cases p <;> dsimp only <;> (try split) <;>
    first | exact loadChain_cfg s | rfl

@[simp] theorem pinWrite_cfg (p : Pin) (v : Bool) (s : State) : (pinWrite p v s).cfg = s.cfg := by
  simp [pinWrite]

@[simp] theorem pinWriteDelay_cfg (p : Pin) (v : Bool) (s : State) : (pinWriteDelay p v s).cfg = s.cfg := by
  simp [pinWriteDelay, delay]

/-! ### Inputs -/

theorem senseRead_cons {s : State} {b : Bool} {bs : List Bool} (h : s.chain = b :: bs) :
    senseRead s = (b ^^ s.cfg.senseInvert, s) := by
  simp [senseRead, h]

theorem senseRead_nil {s : State} (h : s.chain = []) :
    senseRead s = (Config.freeBit s.draws ^^ s.cfg.senseInvert, { s with draws := s.draws + 1 }) := by
  simp [senseRead, h]

/-- A sense read changes at most the count of free values. -/
theorem senseRead_state (s : State) : (senseRead s).2 = { s with draws := (senseRead s).2.draws } := by
  unfold senseRead
  split <;> rfl

theorem lockRead_cons {s : State} {b : Byte} {bs : List Byte} (h : s.locks = b :: bs) :
    lockRead s = (b, { s with locks := bs }) := by
  simp [lockRead, h]

theorem lockRead_nil {s : State} (h : s.locks = []) :
    lockRead s = (Config.freeLock s.draws, { s with draws := s.draws + 1 }) := by
  simp [lockRead, h]

/-! ### The report -/

/-- Sending a report that answers a state built one and appended it. -/
theorem sendReport_eq_next {s t : State} (h : sendReport s = .next t) :
    ∃ r, buildReport? s.cfg s.q s.modMask = some r ∧ t = s.emit (.report r) := by
  unfold sendReport at h
  split at h
  · rename_i r hr
    cases h
    exact ⟨r, hr, rfl⟩
  · cases h

/-- A slot shows a keycode exactly if it is `EMPTY` or holds a key index. -/
theorem slotCode?_isSome_iff (p : Params) (v : Slot) :
    (slotCode? p v).isSome = true ↔ v = 0xFF#8 ∨ v.toNat < p.n := by
  by_cases h : v = 0xFF#8
  · simp [slotCode?, emptySlot, h]
  · have := entry?_isSome_iff p v
    simp only [slotCode?, emptySlot, h, if_false, Option.isSome_map, this, false_or]

/-- A valid slot shows its keycode. -/
theorem slotCode?_of_valid {p : Params} {v : Slot} (h : v = 0xFF#8 ∨ v.toNat < p.n) :
    ∃ c, slotCode? p v = some c :=
  Option.isSome_iff_exists.1 ((slotCode?_isSome_iff p v).2 h)

/-- A key of a kind is a key, with a layout entry that says so. -/
theorem keyOfKind_iff (p : Params) (k : KeyIndex) (m : Bool) :
    p.keyOfKind k m = true ↔ ∃ e, p.entry? k = some e ∧ e.isModifier = m := by
  unfold Params.keyOfKind
  cases p.entry? k <;> simp

/-- A key index is never `EMPTY`. -/
theorem keyOfKind_ne_empty {p : Params} {k : KeyIndex} {m : Bool} (h : p.keyOfKind k m = true) :
    k ≠ 0xFF#8 := by
  rintro rfl
  obtain ⟨e, he, _⟩ := (keyOfKind_iff p _ m).1 h
  have hlt := (entry?_isSome_iff p 0xFF#8).1 (by simp [he])
  have := n_bounds p
  simp at hlt
  omega

/-! ### The timer's select word -/

/-- TS = 11 is decoded to TMR.FIRE, the other three words to IDLE (R87). -/
theorem decode_timerImage (a t : Bool) :
    decode (timerImage a t) = .ok (if a && t then .tmrFire else .idle, []) := by
  cases a <;> cases t <;> rfl

end Sys2Proof.Machine
end

