-- ==== Sys2Proof/Laws/PerInstr.lean ====
section
/-! SUPPORT. Statements about every operation as syntax, one lemma per constructor. -/

namespace Sys2Proof.Laws.ImageSize

/-- The image of an operation is six bytes long. -/
def Statement (i : Instr) : Prop := (encode i).length = 6

theorem smpLatch : Statement .smpLatch := rfl

theorem smpRead (k : KeyIndex) : Statement (.smpRead k) := rfl

theorem smpSnapshot : Statement .smpSnapshot := rfl

theorem dbnPressEdge (k : KeyIndex) : Statement (.dbnPressEdge k) := rfl

theorem dbnReleaseEdge (k : KeyIndex) : Statement (.dbnReleaseEdge k) := rfl

theorem dbnHold (k : KeyIndex) : Statement (.dbnHold k) := rfl

theorem dbnShift (k : KeyIndex) : Statement (.dbnShift k) := rfl

theorem dbnEval : Statement .dbnEval := rfl

theorem kevPressKey (k : KeyIndex) : Statement (.kevPressKey k) := rfl

theorem kevPressMod (k : KeyIndex) : Statement (.kevPressMod k) := rfl

theorem kevReleaseKey (k : KeyIndex) : Statement (.kevReleaseKey k) := rfl

theorem kevReleaseMod (k : KeyIndex) : Statement (.kevReleaseMod k) := rfl

theorem rptSend : Statement .rptSend := rfl

theorem ledUpdate : Statement .ledUpdate := rfl

theorem ledBit (c : Fin 24) (b : Fin 12) : Statement (.ledBit c b) := rfl

theorem ledCommit : Statement .ledCommit := rfl

theorem ledFrame : Statement .ledFrame := rfl

theorem tmrFire : Statement .tmrFire := rfl

theorem tmrDisable : Statement .tmrDisable := rfl

theorem tmrEnable : Statement .tmrEnable := rfl

theorem scan : Statement .scan := rfl

theorem idle : Statement .idle := rfl

theorem reset : Statement .reset := rfl

end Sys2Proof.Laws.ImageSize
end

