-- ==== Sys2Proof/Tests/Slice0.lean ====
section
/-! SUPPORT. The model's own tests. Expected values are those of the vectors V1 to V65 and programs P1 to P5 of
spec/95_test_vectors.md and of the tables of spec/30_encoding.md; each test names its source. Then one witness for
the hypotheses of each statement that has any. -/

namespace Sys2Proof.Tests

open Sys2Proof.Machine

/-! ### Boards and states -/

/-- The layout of P1: keys 0, 1, 3 with codes 04, 05, 06, key 2 a modifier with code 02. -/
def boardP1 : Params where
  lastRow := 1
  lastCol := 1
  layout := #v[⟨false, 0x04⟩, ⟨false, 0x05⟩, ⟨true, 0x02⟩, ⟨false, 0x06⟩]
  senseInvert := false
  loadActive := true
  srclkActive := true
  ledEnActive := true
  overflowPolicy := .evictOldest
  tSettle := 0
  tmrPrescale := 0
  tmrCompare := 0

/-- The layout of section 2.3: keys 0 to 6 with codes 04 + k, modifiers 7, 8, 9 with codes 01, 02, 03. -/
def boardV : Params where
  lastRow := 1
  lastCol := 4
  layout := #v[⟨false, 0x04⟩, ⟨false, 0x05⟩, ⟨false, 0x06⟩, ⟨false, 0x07⟩, ⟨false, 0x08⟩, ⟨false, 0x09⟩,
    ⟨false, 0x0A⟩, ⟨true, 0x01⟩, ⟨true, 0x02⟩, ⟨true, 0x03⟩]
  senseInvert := false
  loadActive := true
  srclkActive := true
  ledEnActive := true
  overflowPolicy := .evictOldest
  tSettle := 0
  tmrPrescale := 0
  tmrCompare := 0

/-- P1's board after reset. -/
def startP1 : State := State.resetWith boardP1

/-- The board of section 2.3 with a queue and a modifier mask. -/
def withQueue (q : Queue) (m : Byte) : State := { State.resetWith boardV with q := q, modMask := m }

/-- `[5,4,3,2,1,0,E]`: six live entries (V33). -/
def sixLive : Queue := ⟨5, 4, 3, 2, 1, 0, 0xFF⟩

/-- `[6,5,4,3,2,1,E]` (V34 to V37). -/
def sixLater : Queue := ⟨6, 5, 4, 3, 2, 1, 0xFF⟩

/-- `[1,E,E,E,E,E,E]` (V39 to V41). -/
def oneLive : Queue := ⟨1, 0xFF, 0xFF, 0xFF, 0xFF, 0xFF, 0xFF⟩

/-- The state a meaning answers, if it answers one. -/
def after (r : Result) : Option State :=
  match r with
  | .next s => some s
  | .fault _ => none
  | .refused _ => none

/-- Why a meaning is refused, if it is. -/
def refusal (r : Result) : Option Refusal :=
  match r with
  | .next _ => none
  | .fault _ => none
  | .refused e => some e

/-- The newest report of a state: its mask and keycodes. -/
def lastReport (s : State) : Option (Byte × List Byte) :=
  match s.trace with
  | .report r :: _ => some (r.modMask, r.keys.toList)
  | _ => none

/-- N = ROWS × COLS (R8): the two boards here, the largest row of keys, and the example of 72 as 8 × 9. -/
theorem test_key_counts :
    (boardP1.n, boardV.n) = (4, 10) ∧
    Params.n { boardV with lastRow := 0, lastCol := 254, layout := Vector.replicate _ default } = 255 ∧
    Params.n { boardV with lastRow := 7, lastCol := 8, layout := Vector.replicate _ default } = 72 := by decide

/-- SENSE_INVERT is 0 where no board says otherwise (R8). -/
theorem test_sense_invert_default : State.reset.cfg.senseInvert = false := rfl

/-! ### Well-formedness: an ill-formed term for each check -/

theorem test_wf_key_out_of_range : (Instr.smpRead 4).wf boardP1 = false := by decide
theorem test_wf_shift_key_out_of_range : (Instr.dbnShift 255).wf boardP1 = false := by decide
theorem test_wf_edges_key_out_of_range :
    [Instr.dbnPressEdge 4, .dbnReleaseEdge 4, .dbnHold 4].map (Instr.wf boardP1) = [false, false, false] := by
  decide
theorem test_wf_press_key_on_modifier : (Instr.kevPressKey 2).wf boardP1 = false := by decide
theorem test_wf_release_key_on_modifier : (Instr.kevReleaseKey 2).wf boardP1 = false := by decide
theorem test_wf_press_mod_on_key : (Instr.kevPressMod 3).wf boardP1 = false := by decide
theorem test_wf_release_mod_on_key : (Instr.kevReleaseMod 0).wf boardP1 = false := by decide
theorem test_wf_dispatch_key_out_of_range : (Instr.kevPressKey 4).wf boardP1 = false := by decide
theorem test_wf_admits :
    [Instr.smpRead 3, .kevPressMod 2, .kevPressKey 3, .dbnHold 0].map (Instr.wf boardP1) =
      [true, true, true, true] := by decide

/-! ### Decoding: words written out from R85, R86, R87, R90, R105 to R107 (one per constructor) -/

theorem test_decode_idle : decode [0, 0b000, 0, 0, 0, 0] = .ok (.idle, []) := rfl
theorem test_decode_tmrDisable : decode [0, 0b000, 0, 1, 0, 0] = .ok (.tmrDisable, []) := rfl
theorem test_decode_tmrEnable : decode [0, 0b000, 0, 2, 0, 0] = .ok (.tmrEnable, []) := rfl
theorem test_decode_smpSnapshot : decode [0, 0b001, 0, 0, 0, 0] = .ok (.smpSnapshot, []) := rfl
theorem test_decode_smpLatch : decode [0, 0b001, 0, 1, 0, 0] = .ok (.smpLatch, []) := rfl
theorem test_decode_smpRead : decode [0, 0b001, 0, 2, 71, 0] = .ok (.smpRead 71, []) := rfl
theorem test_decode_dbnEval : decode [0, 0b010, 0, 0, 0, 0] = .ok (.dbnEval, []) := rfl
theorem test_decode_dbnShift : decode [0, 0b010, 0, 1, 9, 0] = .ok (.dbnShift 9, []) := rfl
theorem test_decode_rptSend : decode [0, 0b011, 0, 0, 0, 0] = .ok (.rptSend, []) := rfl
theorem test_decode_ledFrame : decode [0, 0b100, 0, 0, 0, 0] = .ok (.ledFrame, []) := rfl
theorem test_decode_ledUpdate : decode [0, 0b100, 0, 1, 0, 0] = .ok (.ledUpdate, []) := rfl
theorem test_decode_ledBit : decode [0, 0b100, 0, 2, 23, 11] = .ok (.ledBit 23 11, []) := rfl
theorem test_decode_ledCommit : decode [0, 0b100, 0, 3, 0, 0] = .ok (.ledCommit, []) := rfl
theorem test_decode_dbnPressEdge : decode [1, 0b01111111, 0b0, 0, 5, 0] = .ok (.dbnPressEdge 5, []) := rfl
theorem test_decode_dbnReleaseEdge : decode [1, 0b10000000, 0b1, 0, 5, 0] = .ok (.dbnReleaseEdge 5, []) := rfl
theorem test_decode_dbnHold : decode [1, 0b01111111, 0b1, 0, 5, 0] = .ok (.dbnHold 5, []) := rfl
theorem test_decode_kevPressKey : decode [2, 0b00, 0, 0, 6, 0] = .ok (.kevPressKey 6, []) := rfl
theorem test_decode_kevPressMod : decode [2, 0b01, 0, 0, 7, 0] = .ok (.kevPressMod 7, []) := rfl
theorem test_decode_kevReleaseKey : decode [2, 0b10, 0, 0, 6, 0] = .ok (.kevReleaseKey 6, []) := rfl
theorem test_decode_kevReleaseMod : decode [2, 0b11, 0, 0, 7, 0] = .ok (.kevReleaseMod 7, []) := rfl
theorem test_decode_tmrFire : decode [3, 0b11, 0, 0, 0, 0] = .ok (.tmrFire, []) := rfl
theorem test_decode_scan : decode [3, 0b11, 0, 1, 0, 0] = .ok (.scan, []) := rfl
theorem test_decode_lost_event : decode [3, 0b01, 0, 0, 0, 0] = .ok (.idle, []) := rfl
theorem test_decode_reset : decode [4, 1, 0, 0, 0, 0] = .ok (.reset, []) := rfl
theorem test_decode_rest : decode [4, 1, 0, 0, 0, 0, 7, 8] = .ok (.reset, [7, 8]) := rfl
theorem test_decode_reserved_phase : decode [0, 0b101, 0, 0, 0, 0] = .error .reservedPhase := rfl
theorem test_decode_bad_channel : decode [0, 0b100, 0, 2, 24, 0] = .error .badOperand := rfl
theorem test_decode_bad_bit : decode [0, 0b100, 0, 2, 0, 12] = .error .badOperand := rfl
theorem test_decode_bad_position : decode [0, 0b011, 0, 1, 0, 0] = .error .badPosition := rfl
theorem test_decode_wide_comparator : decode [1, 0, 2, 0, 0, 0] = .error .badSelect := rfl
theorem test_decode_no_event : decode [4, 0, 0, 0, 0, 0] = .error .badSelect := rfl
theorem test_decode_bad_format : decode [5, 0, 0, 0, 0, 0] = .error .badFormat := rfl
theorem test_decode_unused_byte : decode [0, 0, 0, 0, 1, 0] = .error .unusedByte := rfl
theorem test_decode_truncated : decode [0, 0, 0, 0, 0] = .error .truncated := rfl

/-- Table words of the formats that a width names (log entry 6). -/
theorem test_table_words :
    [(8, 0b001), (8, 0b010), (8, 0b100), (16, 0x07F), (16, 0x180), (2, 0b11), (1, 1), (8, 0b101)].map
      (fun x => decodeTableWord x.1 x.2) =
      [some .smpSnapshot, some .dbnEval, some .ledFrame, some (.dbnPressEdge 0), some (.dbnReleaseEdge 0),
       some (.kevReleaseMod 0), some .reset, none] := by decide

/-! ### The formats and the step -/

/-- The phase select of R86. -/
theorem test_phase_bits :
    [Phase.idle, .sample, .filter, .dispatch, .led].map Phase.bits = [0, 1, 2, 3, 4] := by decide

/-- The first step after reset runs a placed operation, whatever the board. -/
theorem test_step_placed_snapshot : (after (step (State.reset.withFetchWord 8 1))).isSome = true := rfl
theorem test_step_placed_press_edge : (after (step (State.reset.withFetchWord 16 0x07F))).isSome = true := rfl
theorem test_step_placed_send : (after (step (State.reset.withFetchWord 8 3))).isSome = true := rfl

/-- SW of P1 scan 1 (R84): raw = 0001, lock = 00; and of P4 scan 7: N = 1, SW = 1FA is lock FD, raw 0. -/
theorem test_stimulus_samples : stimulusSamples boardP1 0x001 = [true, false, false, false] := by decide
theorem test_stimulus_lock :
    stimulusLock { boardP1 with lastRow := 0, lastCol := 0, layout := #v[⟨false, 0x04⟩] } 0x1FA = 0xFD#8 := by decide

/-! ### Sampler: V3, V4, V5, V6, V7, V8 -/

def histState (h : Byte) (s : Bool) : State := { startP1 with hist := [h, 0, 0, 0], chain := [s] }

theorem test_read_V3_V4_V5_V6 :
    [(0xFE#8, true), (0xFE#8, false), (0x7E#8, true), (0x01#8, false)].map
      (fun x => (after (exec (.smpRead 0) (histState x.1 x.2))).map (·.histAt 0)) =
      [some 0xFF#8, some 0xFE#8, some 0x7F#8, some 0x01#8] := by decide

theorem test_read_missing_key : refusal (exec (.smpRead 4) startP1) = some .keyOutOfRange := by decide

theorem test_latch_V8 :
    (after (exec .smpLatch startP1)).map (fun t => t.trace.reverse) =
      some [.pin .srLoad true, .delay, .pin .srLoad false, .delay] := by decide

theorem test_snapshot_V7 :
    (after (exec .smpSnapshot { startP1 with snapshots := [[true, false, false, true]] })).map (·.hist) =
      some [0x01#8, 0x00#8, 0x00#8, 0x01#8] := by decide

theorem test_snapshot_counts :
    (after (exec .smpSnapshot { startP1 with snapshots := [[true, false, false, true]] })).map
      (fun t => (pinWrites t.trace, delays t.trace)) = some (10, 10) := by decide

/-! ### Filter: V10 to V23, V27 -/

theorem test_comparator_V10_to_V17 :
    [(false, 0x7F#8), (true, 0x7F#8), (true, 0x80#8), (false, 0x80#8), (false, 0xFF#8), (true, 0xFF#8),
     (true, 0x00#8), (false, 0x00#8)].map (fun x => selectEdge (comparatorWord x.1 x.2)) =
      [.press, .none, .release, .none, .none, .none, .none, .none] := by decide

theorem test_comparator_words :
    (comparatorWord false 0x7F#8, comparatorWord true 0x80#8) = (0x07F#9, 0x180#9) := by decide

theorem test_shift_V23 :
    (after (exec (.dbnShift 0) (histState 0x5F false))).map (·.histAt 0) = some 0xBE#8 := by decide

theorem test_shift_drops_bit7 :
    (after (exec (.dbnShift 0) (histState 0x80 false))).map (·.histAt 0) = some 0x00#8 := by decide

theorem test_eval_V27 :
    (after (exec .dbnEval { startP1 with hist := [0x7F, 0x80, 0x7F, 0xBF], pressed := [false, true, true, false] })).map
      (fun t => (t.edge, t.hist)) =
      some ([.press, .release, .none, .none], [0xFE#8, 0x00#8, 0xFE#8, 0x7E#8]) := by decide

theorem test_press_edge : (after (exec (.dbnPressEdge 3) startP1)).map (·.edge) =
    some [.none, .none, .none, .press] := by decide

theorem test_release_edge : (after (exec (.dbnReleaseEdge 0) startP1)).map (·.edge) =
    some [.release, .none, .none, .none] := by decide

theorem test_hold_clears : (after (exec (.dbnHold 0) (startP1.setEdge 0 .press))).map (·.edgeAt 0) =
    some .none := by decide

/-! ### Dispatcher and report: V31, V33, V34, V36, V37, V39 to V45, and R124's variants -/

theorem test_press_key_V31 :
    (after (exec (.kevPressKey 3) (withQueue ⟨1, 0, 0xFF, 0xFF, 0xFF, 0xFF, 0xFF⟩ 0))).map
      (fun t => (t.q.slots, lastReport t)) =
      some ([3, 1, 0, 0xFF, 0xFF, 0xFF, 0xFF], some (0x00#8, [0x07, 0x05, 0x04, 0, 0, 0])) := by decide

theorem test_press_key_V33 :
    (after (exec (.kevPressKey 6) (withQueue sixLive 0))).map (fun t => (t.q.slots, lastReport t)) =
      some ([6, 5, 4, 3, 2, 1, 0xFF], some (0x00#8, [0x0A, 0x09, 0x08, 0x07, 0x06, 0x05])) := by decide

theorem test_release_key_V34 :
    (after (exec (.kevReleaseKey 3) (withQueue sixLater 0))).map (fun t => (t.q.slots, lastReport t)) =
      some ([6, 5, 4, 2, 1, 0xFF, 0xFF], some (0x00#8, [0x0A, 0x09, 0x08, 0x06, 0x05, 0x00])) := by decide

theorem test_release_key_V37 :
    (after (exec (.kevReleaseKey 0) ((withQueue sixLater 0).setPressed 0 true))).map
      (fun t => (t.q.slots, t.pressedAt 0, lastReport t)) =
      some ([6, 5, 4, 3, 2, 1, 0xFF], false, some (0x00#8, [0x0A, 0x09, 0x08, 0x07, 0x06, 0x05])) := by decide

theorem test_press_mod_V39 :
    (after (exec (.kevPressMod 7) (withQueue oneLive 0x00))).map (fun t => (t.q, t.modMask, lastReport t)) =
      some (oneLive, 0x01#8, some (0x01#8, [0x05, 0, 0, 0, 0, 0])) := by decide

theorem test_press_mod_V42 :
    (after (exec (.kevPressMod 9) (withQueue Queue.empty 0x03))).map (fun t => (t.modMask, lastReport t)) =
      some (0x03#8, some (0x03#8, [0, 0, 0, 0, 0, 0])) := by decide

theorem test_release_mod_V41 :
    (after (exec (.kevReleaseMod 8) (withQueue oneLive 0x03))).map (fun t => (t.modMask, lastReport t)) =
      some (0x01#8, some (0x01#8, [0x05, 0, 0, 0, 0, 0])) := by decide

theorem test_release_mod_V43 :
    (after (exec (.kevReleaseMod 9) (withQueue Queue.empty 0x03))).map (·.modMask) = some 0x00#8 := by decide

theorem test_send_V44 :
    (after (exec .rptSend (withQueue ⟨3, 1, 0xFF, 0xFF, 0xFF, 0xFF, 0xFF⟩ 0x02))).map lastReport =
      some (some (0x02#8, [0x07, 0x05, 0, 0, 0, 0])) := by decide

/-- R92: slot value 10 on a board of 10 keys is no key. -/
theorem test_send_bad_slot :
    refusal (exec .rptSend (withQueue ⟨10, 0xFF, 0xFF, 0xFF, 0xFF, 0xFF, 0xFF⟩ 0)) = some .slotOutOfRange := by
  decide

def underPolicy (o : OverflowPolicy) (q : Queue) : State :=
  { withQueue q 0 with cfg := { boardV with overflowPolicy := o } }

theorem test_reject_newest_V33 :
    (after (exec (.kevPressKey 6) (underPolicy .rejectNewest sixLive))).map
      (fun t => (t.q.slots, t.pressedAt 6, lastReport t)) =
      some ([5, 4, 3, 2, 1, 0, 0xFF], true, some (0x00#8, [0x09, 0x08, 0x07, 0x06, 0x05, 0x04])) := by decide

theorem test_park_in_spare_V33 :
    (after (exec (.kevPressKey 6) (underPolicy .parkInSpare sixLive))).map (·.q.slots) =
      some [6, 5, 4, 3, 2, 1, 0] := by decide

theorem test_park_in_spare_release :
    (after (exec (.kevReleaseKey 3) (underPolicy .parkInSpare ⟨6, 5, 4, 3, 2, 1, 0⟩))).map
      (fun t => (t.q.slots, lastReport t)) =
      some ([6, 5, 4, 2, 1, 0, 0xFF], some (0x00#8, [0x0A, 0x09, 0x08, 0x06, 0x05, 0x04])) := by decide

/-! ### LED driver: V53, V54, V56, R142, R143 -/

theorem test_update_V54_V56_V53 :
    [0x05#8, 0xFD#8, 0x04#8].map
      (fun l => (after (exec .ledUpdate { startP1 with locks := [l] })).map
        fun t => (t.gs[8], t.gs[9], t.gs[10], t.gs[11], t.gs[12])) =
      [some (0#12, 0xFFF#12, 0#12, 0xFFF#12, 0#12), some (0#12, 0xFFF#12, 0#12, 0xFFF#12, 0#12),
       some (0#12, 0#12, 0#12, 0xFFF#12, 0#12)] := by decide

theorem test_led_bit :
    (after (exec (.ledBit 11 11) { startP1 with gs := startP1.gs.set 11 0xFFF })).map
      (fun t => (t.trace.reverse, t.ledSr.toNat)) =
      some ([.pin .ledClk false, .delay, .pin .ledData true, .delay, .pin .ledClk true, .delay], 1) := by
  decide +kernel

theorem test_led_commit :
    (after (exec .ledCommit { startP1 with ledSr := 5#288 })).map (fun t => (t.trace.reverse, t.ledOut.toNat)) =
      some ([.pin .ledClk false, .delay, .pin .ledLatch true, .delay, .pin .ledLatch false], 5) := by
  decide +kernel

/-- R83: the frame starts with channel 23 bit 11 and ends with channel 0 bit 0, 288 bits in all. -/
theorem test_frame_order :
    (framePositions.length, framePositions.head?, framePositions.getLast?) =
      (288, some (23, 11), some (0, 0)) := by decide +kernel

/-! ### Scheduler and reset: V60 to V63 -/

/-- A frame sent from pins that all stand high: one rise of the latch, 288 of the clock (R147). -/
theorem test_frame_rises :
    (after (exec .ledFrame { startP1 with pins := ⟨true, true, true, true, true, true⟩ })).map
      (fun t => (rises .ledClk true t.trace.reverse, rises .ledLatch true t.trace.reverse)) = some (288, 1) := by
  decide +kernel

theorem test_timer_disable : (after (exec .tmrDisable startP1)).map (·.tmrEn) = some false := by decide
theorem test_timer_enable :
    (after (exec .tmrEnable { startP1 with tmrEn := false })).map (·.tmrEn) = some true := by decide

/-- V61: a period event inside a scan is lost. -/
theorem test_lost_event_V61 :
    after (step { startP1 with tmrEn := false, phase := .led, events := [.tick] }) =
      some { startP1 with tmrEn := false, phase := .led, events := [] } := rfl

/-- V62: no event, nothing changes. -/
theorem test_idle_V62 :
    after (step { startP1 with events := [.quiet] }) = some startP1 := rfl

theorem test_idle : after (exec .idle startP1) = some startP1 := rfl

/-- V60, V64: a period event runs a scan, from sampling to the LEDs: 10 sampler and 868 LED pin writes. -/
theorem test_fire_V60_V64 :
    (after (step (startP1.offerScan 0x000))).map
      (fun t => (t.tmrEn, t.phase, t.hist, pinWrites t.trace)) = some (true, .idle, [0, 0, 0, 0], 878) := by
  decide +kernel

/-- V65: the scan that presses key 0. -/
theorem test_scan_V65 :
    (after (exec .scan (({ startP1 with hist := [0x7E, 0, 0, 0] } : State).offerScan 0x021))).map
      (fun t => (t.hist, t.q.slots, t.gs[10])) =
      some ([0xFE#8, 0, 0, 0], [0, 0xFF, 0xFF, 0xFF, 0xFF, 0xFF, 0xFF], 0xFFF#12) := by decide +kernel

theorem test_reset_V63 :
    (after (exec .reset (withQueue sixLive 3))).map (fun t => (t.q, t.modMask, t.hist.length, t.pins.ledEn)) =
      some (Queue.empty, 0x00#8, 10, true) := by decide

/-! ### Witnesses: the hypotheses of each statement can be met -/

/-- P1's board between scans with key 0 held: pressed, in the queue, its last samples high. -/
def heldP1 : State :=
  { startP1 with
    hist := [0xFE, 0, 0, 0]
    pressed := [true, false, false, false]
    q := ⟨0, 0xFF, 0xFF, 0xFF, 0xFF, 0xFF, 0xFF⟩ }

/-- Section 2.3's board with six keys held and queued. -/
def sixHeld : State :=
  { withQueue sixLive 0 with
    pressed := [true, true, true, true, true, true, false, false, false, false] }

theorem startP1_inv : startP1.Inv where
  sized := by simp only [State.Sized]; decide
  policy := rfl
  lowBit := by decide
  noEdges := by decide
  queue := ⟨[], by decide⟩
  reserved := by simp only [State.ReservedDark]; decide
  lockChannels := by simp only [State.LockChannelsFull]; decide
  timer := rfl
  phase := rfl
  chainEnabled := rfl
  portEmpty := rfl

theorem heldP1_inv : heldP1.Inv where
  sized := by simp only [State.Sized]; decide
  policy := rfl
  lowBit := by decide
  noEdges := by decide
  queue := ⟨[0], by decide⟩
  reserved := by simp only [State.ReservedDark]; decide
  lockChannels := by simp only [State.LockChannelsFull]; decide
  timer := rfl
  phase := rfl
  chainEnabled := rfl
  portEmpty := rfl

theorem sixHeld_queueOk : sixHeld.QueueOk := ⟨[5, 4, 3, 2, 1, 0], by decide⟩

theorem sixHeld_slotsValid : sixHeld.SlotsValid := by simp only [State.SlotsValid]; decide

theorem heldP1_slotsValid : heldP1.SlotsValid := by simp only [State.SlotsValid]; decide

theorem underPolicy_slotsValid (o : OverflowPolicy) : (underPolicy o sixLive).SlotsValid := by
  cases o <;> (simp only [State.SlotsValid]; decide)

theorem witness_ReservedPhaseSelectsRefused :
    (5 ≤ (5#16).toNat ∧ (5#16).toNat < 8) ∧ (5 ≤ (7#16).toNat ∧ (7#16).toNat < 8) := by decide

theorem witness_StepRunsDecodedOperation :
    (startP1.offer (encode .idle)).opPort = 0 :: [0, 0, 0, 0, 0] ∧
    decode (0 :: [0, 0, 0, 0, 0]) = .ok (.idle, []) := ⟨rfl, rfl⟩

theorem witness_StepRunsDecodedOperation_refused :
    (startP1.offer [5]).opPort = 5 :: [] ∧ decode (5 :: []) = .error .truncated := ⟨rfl, rfl⟩

theorem witness_PeriodEventStartsScanOrIsLost :
    (startP1.offerScan 0).opPort = [] ∧ (startP1.offerScan 0).events = .tick :: [] := ⟨rfl, rfl⟩

theorem witness_QuietStepChangesNothing :
    ({ startP1 with events := [.quiet] } : State).opPort = [] ∧
    ({ startP1 with events := [.quiet] } : State).events = .quiet :: [] := ⟨rfl, rfl⟩

theorem witness_ResetEventRunsReset :
    ({ startP1 with events := [.reset] } : State).opPort = [] ∧
    ({ startP1 with events := [.reset] } : State).events = .reset :: [] := ⟨rfl, rfl⟩

theorem witness_UngivenEventIsFree : startP1.opPort = [] ∧ startP1.events = [] := ⟨rfl, rfl⟩

theorem witness_StepRunsPlacedTableWord : decodeTableWord 16 0x180 = some (.dbnReleaseEdge 0) := rfl

/-- ReadOrsSampleIntoHistory, FilterOutcomesWriteOneEdge, ShiftAgesHistory: the first and the last key. -/
theorem witness_key_below_n : (0#8).toNat < startP1.cfg.n ∧ (3#8).toNat < startP1.cfg.n := by decide

theorem witness_LatchPulsesLoadLine :
    (startP1.offerScan 0x001).snapshots = (true :: [false, false, false]) :: [] := rfl

theorem witness_ReadOrsSampleIntoHistory_given :
    (histState 0 true).chain = true :: [] ∧ (0#8).toNat < (histState 0 true).cfg.n := by decide

/-- SnapshotSamplesEveryKey, ScanAgesEveryHistory, ScanPressedFollowsPatterns, ScanSendsOneReportPerEdge. -/
theorem witness_given_snapshot :
    (heldP1.offerScan 0x001).Sized ∧ (heldP1.offerScan 0x001).SlotsValid ∧
    (heldP1.offerScan 0x001).snapshots = [true, false, false, false] :: [] ∧
    [true, false, false, false].length = (heldP1.offerScan 0x001).cfg.n := by
  refine ⟨heldP1_inv.sized, heldP1_slotsValid, rfl, rfl⟩

theorem witness_EvalComparesAndShiftsEveryKey : heldP1.Sized ∧ (3#8).toNat < heldP1.cfg.n :=
  ⟨heldP1_inv.sized, by decide⟩

/-- PressModifierOrsCode, ReleaseModifierClearsCode. -/
theorem witness_modifier :
    sixHeld.cfg.entry? 7 = some ⟨true, 0x01⟩ ∧ (⟨true, 0x01⟩ : LayoutEntry).isModifier = true ∧
    sixHeld.SlotsValid := ⟨by decide, rfl, sixHeld_slotsValid⟩

theorem witness_PressKeyInsertsAtFront :
    sixHeld.cfg.keyOfKind 6 false = true ∧ sixHeld.cfg.overflowPolicy = .evictOldest ∧ sixHeld.SlotsValid :=
  ⟨by decide, rfl, sixHeld_slotsValid⟩

/-- ReleaseKeyRemovesAndCompacts with the key in the first slot, and in the last reported one. -/
theorem witness_ReleaseKeyRemovesAndCompacts_front :
    sixHeld.cfg.keyOfKind 5 false = true ∧ sixHeld.cfg.overflowPolicy ≠ .parkInSpare ∧ sixHeld.SlotsValid ∧
    sixHeld.q.reported = [] ++ 5 :: [4, 3, 2, 1, 0] ∧ (5 : KeyIndex) ∉ ([] : List Slot) :=
  ⟨by decide, by decide, sixHeld_slotsValid, rfl, by decide⟩

theorem witness_ReleaseKeyRemovesAndCompacts_back :
    sixHeld.cfg.keyOfKind 0 false = true ∧ sixHeld.cfg.overflowPolicy ≠ .parkInSpare ∧ sixHeld.SlotsValid ∧
    sixHeld.q.reported = [5, 4, 3, 2, 1] ++ 0 :: [] ∧ (0 : KeyIndex) ∉ ([5, 4, 3, 2, 1] : List Slot) :=
  ⟨by decide, by decide, sixHeld_slotsValid, rfl, by decide⟩

theorem witness_ReleaseKeyRemovesAndCompacts_absent :
    sixHeld.cfg.keyOfKind 6 false = true ∧ sixHeld.cfg.overflowPolicy ≠ .parkInSpare ∧ sixHeld.SlotsValid ∧
    6 ∉ sixHeld.q.reported := ⟨by decide, by decide, sixHeld_slotsValid, by decide⟩

theorem witness_RejectNewestPress :
    (underPolicy .rejectNewest sixLive).cfg.keyOfKind 6 false = true ∧
    (underPolicy .rejectNewest sixLive).cfg.overflowPolicy = .rejectNewest ∧
    (underPolicy .rejectNewest sixLive).SlotsValid := ⟨by decide, rfl, underPolicy_slotsValid _⟩

theorem witness_ParkInSparePressAndRelease :
    (underPolicy .parkInSpare sixLive).cfg.keyOfKind 6 false = true ∧
    (underPolicy .parkInSpare sixLive).cfg.overflowPolicy = .parkInSpare ∧
    (underPolicy .parkInSpare sixLive).SlotsValid := ⟨by decide, rfl, underPolicy_slotsValid _⟩

/-- WrongKeysAreRefused: the least and the greatest index that is no key; a key of each kind. -/
theorem witness_WrongKeysAreRefused :
    ¬ (4#8).toNat < startP1.cfg.n ∧ ¬ (255#8).toNat < startP1.cfg.n ∧
    startP1.cfg.entry? 2 = some ⟨true, 0x02⟩ ∧ startP1.cfg.entry? 3 = some ⟨false, 0x06⟩ := by decide

theorem witness_PressReleaseRoundTrip :
    startP1.cfg.overflowPolicy = .evictOldest ∧ startP1.q.slots = List.replicate 7 0xFF#8 ∧
    startP1.cfg.keyOfKind 0 false = true ∧ startP1.cfg.keyOfKind 1 false = true ∧
    startP1.cfg.keyOfKind 3 false = true ∧ (0 : KeyIndex) ≠ 1 := by decide

theorem witness_SeventhPressEvictsOldest :
    sixHeld.cfg.overflowPolicy = .evictOldest ∧ sixHeld.QueueOk ∧ sixHeld.q.q5 ≠ 0xFF#8 ∧
    6 ∉ sixHeld.q.slots ∧ sixHeld.cfg.keyOfKind 6 false = true :=
  ⟨rfl, sixHeld_queueOk, by decide, by decide, by decide⟩

/-- SendReportsQueueAndMask: a queue with a slot that is no key. -/
theorem witness_SendReportsQueueAndMask_refused :
    (10 : Slot) ∈ (withQueue ⟨10, 0xFF, 0xFF, 0xFF, 0xFF, 0xFF, 0xFF⟩ 0).q.reported ∧ (10 : Slot) ≠ 0xFF#8 ∧
    ¬ (10 : Slot).toNat < (withQueue ⟨10, 0xFF, 0xFF, 0xFF, 0xFF, 0xFF, 0xFF⟩ 0).cfg.n := by decide

theorem witness_DispatchSelectsByEdgeAndKind :
    (startP1.setEdge 0 .press).cfg.entry? 0 = some ⟨false, 0x04⟩ ∧ (startP1.setEdge 0 .press).edgeAt 0 = .press ∧
    (startP1.setEdge 2 .release).cfg.entry? 2 = some ⟨true, 0x02⟩ ∧
    (startP1.setEdge 2 .release).edgeAt 2 = .release := by decide

theorem witness_ResetStateMeetsInvariant : boardP1.overflowPolicy = .evictOldest := rfl

theorem witness_LedUpdateSetsLockChannels :
    ({ startP1 with locks := [0x05] } : State).locks = 0x05 :: [] := rfl

theorem witness_LockHighBitsIgnored : 0x05#8 &&& 0x07#8 = 0xFD#8 &&& 0x07#8 := by decide

theorem witness_FireRunsScanWhenEnabled :
    sixHeld.tmrEn = true ∧ sixHeld.SlotsValid ∧ ({ sixHeld with tmrEn := false } : State).tmrEn = false :=
  ⟨rfl, sixHeld_slotsValid, rfl⟩

/-- ScanRunsToItsEnd, ScanOutputsInOrder, LockByteReachesOnlyLeds: a full queue with its spare slot empty. -/
theorem witness_slots_valid : sixHeld.SlotsValid ∧ (9#8).toNat < sixHeld.cfg.n :=
  ⟨sixHeld_slotsValid, by decide⟩

theorem witness_SamplesDoNotReachLeds :
    (heldP1.offerScan 0x021).SlotsValid ∧ (heldP1.offerScan 0x021).locks = 0x02 :: [] :=
  ⟨heldP1_slotsValid, rfl⟩

/-- StepKeepsParameters, StepKeepsLedChainEnabled, StepKeepsReservedChannelsDark, StepKeepsInvariant, StepNeverStops: a
whole scan that presses and releases keys. -/
theorem witness_step_of_scan :
    (heldP1.offerScan 0x020).Inv ∧ (heldP1.offerScan 0x020).ChainEnabled ∧
    (heldP1.offerScan 0x020).ReservedDark ∧ ∃ t, step (heldP1.offerScan 0x020) = .next t := by
  refine ⟨?_, heldP1_inv.chainEnabled, heldP1_inv.reserved, ?_⟩
  · exact { heldP1_inv with }
  · have h : (after (step (heldP1.offerScan 0x020))).isSome = true := by decide +kernel
    revert h
    cases step (heldP1.offerScan 0x020) <;> simp [after]

theorem witness_StepKeepsLedChainEnabled :
    Instr.ledCommit ≠ .reset ∧ (after (exec .ledCommit startP1)).isSome = true ∧
    (after (exec .reset startP1)).isSome = true := by decide

/-- Two modifiers with disjoint codes, one of them held, on P1's board with key 0 made a modifier. -/
theorem witness_StepKeepsModifierMask :
    let s : State :=
      { startP1 with
        cfg := { boardP1 with layout := #v[⟨true, 0x01⟩, ⟨false, 0x05⟩, ⟨true, 0x02⟩, ⟨false, 0x06⟩] }
        pressed := [false, true, true, false], modMask := 0x02, events := [.quiet] }
    ModifiersDisjoint s.cfg ∧ s.Sized ∧ s.ModMaskOk ∧ (after (step s)).isSome = true := by
  simp only [ModifiersDisjoint, State.Sized, State.ModMaskOk]
  decide

/-- Seven scans' inputs. -/
def sevenScans (s : State) (sw : Nat) : State :=
  (List.replicate 7 sw).foldl State.offerScan s

theorem witness_PressInSeventhHighScan :
    (sevenScans startP1 0x001).Inv ∧ (0#8).toNat < (sevenScans startP1 0x001).cfg.n ∧
    (sevenScans startP1 0x001).pressedAt 0 = false ∧ ((sevenScans startP1 0x001).histAt 0).getLsbD 1 = false ∧
    (sevenScans startP1 0x001).events = List.replicate 7 .tick ++ [] ∧
    (sevenScans startP1 0x001).snapshots = List.replicate 7 [true, false, false, false] ∧
    ∀ m ∈ List.replicate 7 [true, false, false, false],
      m.length = (sevenScans startP1 0x001).cfg.n ∧
      (m.getD (0#8).toNat false ^^ (sevenScans startP1 0x001).cfg.senseInvert) = true := by
  refine ⟨{ startP1_inv with }, ?_⟩
  decide

theorem witness_ReleaseInSeventhLowScan :
    (sevenScans heldP1 0x000).Inv ∧ (0#8).toNat < (sevenScans heldP1 0x000).cfg.n ∧
    (sevenScans heldP1 0x000).pressedAt 0 = true ∧ ((sevenScans heldP1 0x000).histAt 0).getLsbD 1 = true ∧
    (sevenScans heldP1 0x000).events = List.replicate 7 .tick ++ [] ∧
    (sevenScans heldP1 0x000).snapshots = List.replicate 7 [false, false, false, false] ∧
    ∀ m ∈ List.replicate 7 [false, false, false, false],
      m.length = (sevenScans heldP1 0x000).cfg.n ∧
      (m.getD (0#8).toNat false ^^ (sevenScans heldP1 0x000).cfg.senseInvert) = false := by
  refine ⟨{ heldP1_inv with }, ?_⟩
  decide

end Sys2Proof.Tests
end

section
/-! Proofs about the build-time parameters (R6) and about one read of the matrix (R102). -/

namespace Sys2Proof.Machine

/-! ### One read of the matrix (R16, R102) -/

/-- R89 (a): the sample bit as the byte of R102. -/
theorem addSample_eq (h : Byte) (b : Bool) : addSample h b = h ||| sampleByte b := by
  cases b <;> rfl

/-- The sense line shows the first level of the matrix chain, or a free one when the chain holds none (R16). -/
theorem senseRead_eq (s : State) :
    senseRead s =
      (s.chain.headD (Config.freeBit s.draws) ^^ s.cfg.senseInvert,
       { s with draws := if s.chain = [] then s.draws + 1 else s.draws }) := by
  by_cases h : s.chain = []
  · rw [senseRead_nil h, if_pos h, h, List.headD_nil]
  · obtain ⟨b, bs, hc⟩ := List.exists_cons_of_ne_nil h
    have hd : s.chain.headD (Config.freeBit s.draws) = b := by rw [hc, List.headD_cons]
    rw [senseRead_cons hc, if_neg h, hd]

/-- A clock pulse: two writes of SR_CLK, and the matrix chain one bit further (R62, R102). -/
theorem pulseClock_eq (s : State) :
    pulseClock s =
      { s with
        pins := { s.pins with srClk := !s.cfg.srclkActive }
        chain := s.chain.tail
        trace := [.delay, .pin .srClk (!s.cfg.srclkActive), .delay, .pin .srClk s.cfg.srclkActive] ++ s.trace } := by
  have hup := pinWrite_srClk_assert s
  have hdown := pinWrite_srClk_deassert (delay (pinWrite .srClk s.cfg.srclkActive s))
  simp only [pulseClock, pinWriteDelay]
  rw [hup] at hdown ⊢
  simpa [delay, State.emit] using congrArg delay hdown

/-- All that one round of the SAMPLE phase does (R102). -/
theorem sampleKey_eq (s : State) (k : KeyIndex) :
    sampleKey s k =
      { s with
        hist := s.hist.set k.toNat
          (s.histAt k ||| sampleByte (s.chain.headD (Config.freeBit s.draws) ^^ s.cfg.senseInvert))
        pins := { s.pins with srClk := !s.cfg.srclkActive }
        chain := s.chain.tail
        draws := if s.chain = [] then s.draws + 1 else s.draws
        trace := [.delay, .pin .srClk (!s.cfg.srclkActive), .delay, .pin .srClk s.cfg.srclkActive] ++ s.trace } := by
  simp [sampleKey, senseRead_eq, pulseClock_eq, addSample_eq, State.setHist, State.histAt]

/-- SMP.READ of a key completes. -/
theorem exec_smpRead_of_lt {s : State} {k : KeyIndex} (h : k.toNat < s.cfg.n) :
    exec (.smpRead k) s = .next (sampleKey s k) :=
  onKey_of_lt h fun t => .next (sampleKey t k)

/-! ### Updates that keep the parameters (R6) -/

/-- What every round of a loop keeps, the loop keeps. -/
theorem foldl_keeps {σ α β : Type} {f : σ → α → σ} {get : σ → β} (h : ∀ s a, get (f s a) = get s)
    (l : List α) (s : σ) : get (l.foldl f s) = get s := by
  induction l generalizing s with
  | nil => rfl
  | cons a l ih => exact (ih (f s a)).trans (h s a)

@[simp] theorem latchMatrix_cfg (s : State) : (latchMatrix s).cfg = s.cfg := by
  simp [latchMatrix]

@[simp] theorem sampleKey_cfg (s : State) (k : KeyIndex) : (sampleKey s k).cfg = s.cfg := by
  rw [sampleKey_eq]

@[simp] theorem snapshotMatrix_cfg (s : State) : (snapshotMatrix s).cfg = s.cfg := by
  rw [snapshotMatrix, foldl_keeps sampleKey_cfg, latchMatrix_cfg]

@[simp] theorem evalKey_cfg (s : State) (k : KeyIndex) : (evalKey s k).cfg = s.cfg := rfl

@[simp] theorem evalKeys_cfg (s : State) : (evalKeys s).cfg = s.cfg :=
  foldl_keeps evalKey_cfg s.keys s

@[simp] theorem lockRead_cfg (s : State) : (lockRead s).2.cfg = s.cfg := by
  cases h : s.locks with
  | nil => rw [lockRead_nil h]
  | cons b bs => rw [lockRead_cons h]

@[simp] theorem updateLeds_cfg (s : State) : (updateLeds s).cfg = s.cfg := lockRead_cfg s

@[simp] theorem shiftBit_cfg (s : State) (cb : Fin 24 × Fin 12) : (shiftBit s cb).cfg = s.cfg := by
  simp [shiftBit]

@[simp] theorem commitFrame_cfg (s : State) : (commitFrame s).cfg = s.cfg := by
  simp [commitFrame]

@[simp] theorem sendFrame_cfg (s : State) : (sendFrame s).cfg = s.cfg := by
  rw [sendFrame, commitFrame_cfg, foldl_keeps shiftBit_cfg, pinWriteDelay_cfg]

@[simp] theorem ledPhase_cfg (s : State) : (ledPhase s).cfg = s.cfg := by
  rw [ledPhase, sendFrame_cfg, updateLeds_cfg]

@[simp] theorem enterHandler_cfg (s : State) : (enterHandler s).cfg = s.cfg := rfl

@[simp] theorem leaveHandler_cfg (s : State) : (leaveHandler s).cfg = s.cfg := rfl

@[simp] theorem sampleAndFilter_cfg (s : State) : (sampleAndFilter s).cfg = s.cfg := by
  rw [sampleAndFilter, evalKeys_cfg, State.setPhase_cfg, snapshotMatrix_cfg, enterHandler_cfg]

@[simp] theorem ledAndLeave_cfg (s : State) : (ledAndLeave s).cfg = s.cfg := by
  rw [ledAndLeave, leaveHandler_cfg, ledPhase_cfg, State.setPhase_cfg]

/-! ### Operations that keep the parameters when they are not refused (R6) -/

section
variable {s t : State} {k : KeyIndex}

/-- An operation that always completes keeps the parameters if the state it answers has them. -/
theorem next_cfg {u : State} (h : (.next u : Result) = .next t) (hu : u.cfg = s.cfg) : t.cfg = s.cfg := by
  rw [← Host.Outcome.next.inj h, hu]

/-- An operation on a key that answers a state had a key. -/
theorem onKey_eq_next {f : State → Result} (h : onKey k s f = .next t) : k.toNat < s.cfg.n ∧ f s = .next t := by
  by_cases hk : k.toNat < s.cfg.n
  · exact ⟨hk, (onKey_of_lt hk f).symm.trans h⟩
  · rw [onKey_of_not_lt hk] at h
    cases h

theorem sendReport_cfg (h : sendReport s = .next t) : t.cfg = s.cfg := by
  obtain ⟨r, -, rfl⟩ := sendReport_eq_next h
  rfl

theorem pressModifier_cfg {e : LayoutEntry} (h : pressModifier k e s = .next t) : t.cfg = s.cfg :=
  (sendReport_cfg h :)

theorem pressKey_cfg (h : pressKey k s = .next t) : t.cfg = s.cfg :=
  (sendReport_cfg h :)

theorem releaseModifier_cfg {e : LayoutEntry} (h : releaseModifier k e s = .next t) : t.cfg = s.cfg :=
  (sendReport_cfg h :)

theorem releaseKey_cfg (h : releaseKey k s = .next t) : t.cfg = s.cfg :=
  (sendReport_cfg h :)

theorem dispatchEdge_cfg {ed : Edge} (h : dispatchEdge k ed s = .next t) : t.cfg = s.cfg := by
  unfold dispatchEdge at h
  split at h
  · cases h
    rfl
  · cases h
  · split at h
    · exact pressModifier_cfg h
    · exact pressKey_cfg h
  · split at h
    · exact releaseModifier_cfg h
    · exact releaseKey_cfg h

theorem dispatchKey_cfg (h : dispatchKey k s = .next t) : t.cfg = s.cfg := by
  obtain ⟨u, hu, ht⟩ := andThen_eq_next h
  exact next_cfg ht (dispatchEdge_cfg hu :)

theorem dispatchKeys_cfg {ks : List KeyIndex} (h : dispatchKeys ks s = .next t) : t.cfg = s.cfg := by
  induction ks generalizing s with
  | nil =>
    cases h
    rfl
  | cons k ks ih =>
    obtain ⟨u, hu, ht⟩ := andThen_eq_next h
    exact (ih ht).trans (dispatchKey_cfg hu)

theorem dispatchPhase_cfg (h : dispatchPhase s = .next t) : t.cfg = s.cfg :=
  (dispatchKeys_cfg h :)

theorem runScan_cfg (h : runScan s = .next t) : t.cfg = s.cfg := by
  obtain ⟨u, hu, ht⟩ := andThen_eq_next h
  calc t.cfg
    _ = u.cfg := next_cfg ht (ledAndLeave_cfg u)
    _ = (sampleAndFilter s).cfg := dispatchPhase_cfg hu
    _ = s.cfg := sampleAndFilter_cfg s

theorem execTmrFire_cfg (h : execTmrFire s = .next t) : t.cfg = s.cfg := by
  unfold execTmrFire at h
  split at h
  · exact runScan_cfg h
  · exact next_cfg h rfl

/-- An operation that writes for one key keeps the parameters if the write does. -/
theorem onKey_next_cfg {f : State → State} (h : onKey k s (fun u => .next (f u)) = .next t)
    (hf : (f s).cfg = s.cfg) : t.cfg = s.cfg := by
  obtain ⟨-, hk⟩ := onKey_eq_next h
  exact next_cfg hk hf

/-- A dispatcher operation keeps the parameters if its meaning does. -/
theorem onKeyOfKind_cfg {m : Bool} {f : LayoutEntry → State → Result} (h : onKeyOfKind m k s f = .next t)
    (hf : ∀ e, f e s = .next t → t.cfg = s.cfg) : t.cfg = s.cfg := by
  obtain ⟨e, -, -, he⟩ := onKeyOfKind_eq_next h
  exact hf e he

/-- R6: no operation changes a build-time parameter. -/
theorem exec_cfg {i : Instr} (h : exec i s = .next t) : t.cfg = s.cfg := by
  cases i with
  | smpLatch => exact next_cfg h (latchMatrix_cfg s)
  | smpRead k => exact onKey_next_cfg (f := (sampleKey · k)) h (sampleKey_cfg s k)
  | smpSnapshot => exact next_cfg h (snapshotMatrix_cfg s)
  | dbnPressEdge k => exact onKey_next_cfg (f := (·.setEdge k .press)) h rfl
  | dbnReleaseEdge k => exact onKey_next_cfg (f := (·.setEdge k .release)) h rfl
  | dbnHold k => exact onKey_next_cfg (f := (·.setEdge k .none)) h rfl
  | dbnShift k => exact onKey_next_cfg (f := (shiftKey · k)) h rfl
  | dbnEval => exact next_cfg h (evalKeys_cfg s)
  | kevPressKey k => exact onKeyOfKind_cfg h fun _ => pressKey_cfg
  | kevPressMod k => exact onKeyOfKind_cfg h fun _ => pressModifier_cfg
  | kevReleaseKey k => exact onKeyOfKind_cfg h fun _ => releaseKey_cfg
  | kevReleaseMod k => exact onKeyOfKind_cfg h fun _ => releaseModifier_cfg
  | rptSend => exact sendReport_cfg h
  | ledUpdate => exact next_cfg h (updateLeds_cfg s)
  | ledBit c b => exact next_cfg h (shiftBit_cfg s (c, b))
  | ledCommit => exact next_cfg h (commitFrame_cfg s)
  | ledFrame => exact next_cfg h (sendFrame_cfg s)
  | tmrFire => exact execTmrFire_cfg h
  | tmrDisable => exact next_cfg h rfl
  | tmrEnable => exact next_cfg h rfl
  | scan => exact runScan_cfg h
  | idle => exact next_cfg h rfl
  | reset => exact next_cfg h rfl

/-- A step that answers a state ran the operation it decoded. -/
theorem step_eq_next (h : step s = .next t) :
    ∃ i rest, decode (fetch s).1 = .ok (i, rest) ∧ exec i ((fetch s).2.offer rest) = .next t := by
  unfold step at h
  split at h
  · exact ⟨_, _, ‹_›, h⟩
  · cases h

@[simp] theorem fetch_cfg (s : State) : (fetch s).2.cfg = s.cfg := by
  unfold fetch
  split
  · rfl
  · split <;> rfl

end

end Sys2Proof.Machine

namespace Sys2Proof.Proofs

open Sys2Proof.Machine

/-- Settles O14: a read of key k is one round of the SAMPLE phase (R102), whatever state it starts from. -/
theorem readOrsSampleIntoHistory : Obligations.ReadOrsSampleIntoHistory := by
  intro s k hk
  refine ⟨s.chain.headD (Config.freeBit s.draws), sampleKey s k, ?_, exec_smpRead_of_lt hk, ?_⟩
  · intro b bs hchain
    rw [hchain, List.headD_cons]
  · rw [sampleKey_eq]

/-- Settles O50: taking the event keeps the parameters, and so does every operation (R6). -/
theorem stepKeepsParameters : Obligations.StepKeepsParameters := by
  intro s t h
  obtain ⟨i, rest, -, hi⟩ := step_eq_next h
  exact (exec_cfg hi).trans (fetch_cfg s)

end Sys2Proof.Proofs
end

section
/-! Proofs about what every step keeps (R20, R24 to R26, R37 to R44, R146): which writes the operations are made of, and
one induction over them that each invariant uses. -/

namespace Sys2Proof.Machine

/-! ### What the driven pins and the inputs leave alone -/

/-- The registers of a state: what is left of it when the five driven pins, the trace, the devices, the samples and
lock bytes to come and the count of free values are blanked out. LED_EN stays, since no operation drives it (R146). -/
def State.registers (s : State) : State :=
  { s with
    pins := { srLoad := false, srClk := false, ledData := false, ledClk := false, ledLatch := false
              ledEn := s.pins.ledEn }
    trace := [], ledSr := 0#288, ledOut := 0#288, chain := [], snapshots := [], locks := [], draws := 0 }

@[simp] theorem emit_registers (s : State) (o : Output) : (s.emit o).registers = s.registers := rfl

@[simp] theorem delay_registers (s : State) : (delay s).registers = s.registers := rfl

@[simp] theorem loadChain_registers (s : State) : (loadChain s).registers = s.registers := by
  unfold loadChain
  split <;> rfl

@[simp] theorem advanceChain_registers (s : State) : (advanceChain s).registers = s.registers := rfl

@[simp] theorem shiftLedChain_registers (s : State) : (shiftLedChain s).registers = s.registers := rfl

@[simp] theorem latchLedChain_registers (s : State) : (latchLedChain s).registers = s.registers := rfl

/-- The devices at the pins write no register. -/
@[simp] theorem deviceReacts_registers (p : Pin) (old new : Bool) (s : State) :
    (deviceReacts p old new s).registers = s.registers := by
  cases p <;> simp [deviceReacts, apply_ite State.registers]

/-- A write of a driven pin writes no register. -/
@[simp] theorem pinWrite_registers {p : Pin} (hp : p ≠ .ledEn) (v : Bool) (s : State) :
    (pinWrite p v s).registers = s.registers := by
  cases p with
  | ledEn => exact absurd rfl hp
  | _ => exact deviceReacts_registers _ _ _ _

@[simp] theorem pinWriteDelay_registers {p : Pin} (hp : p ≠ .ledEn) (v : Bool) (s : State) :
    (pinWriteDelay p v s).registers = s.registers := by
  simp [pinWriteDelay, hp]

@[simp] theorem latchMatrix_registers (s : State) : (latchMatrix s).registers = s.registers := by
  simp [latchMatrix]

@[simp] theorem pulseClock_registers (s : State) : (pulseClock s).registers = s.registers := by
  simp [pulseClock]

@[simp] theorem shiftBit_registers (s : State) (cb : Fin 24 × Fin 12) :
    (shiftBit s cb).registers = s.registers := by
  simp [shiftBit]

@[simp] theorem commitFrame_registers (s : State) : (commitFrame s).registers = s.registers := by
  simp [commitFrame]

@[simp] theorem sendFrame_registers (s : State) : (sendFrame s).registers = s.registers := by
  simp [sendFrame, foldl_keeps (get := State.registers) shiftBit_registers]

/-- R102: of the registers, a read of the matrix writes the history of its key alone. -/
theorem sampleKey_registers (s : State) (k : KeyIndex) :
    ∃ v, (sampleKey s k).registers = (s.setHist k v).registers := by
  rw [sampleKey_eq]
  exact ⟨_, rfl⟩

/-- R141: of the registers, LED.UPDATE writes the lock channels alone. -/
theorem updateLeds_registers (s : State) :
    (updateLeds s).registers = { s with gs := lockChannels s.gs (lockRead s).1 }.registers := by
  cases h : s.locks with
  | nil => simp [updateLeds, lockRead_nil h, State.registers]
  | cons b bs => simp [updateLeds, lockRead_cons h, State.registers]

/-- R145: so does the whole LED phase. -/
theorem ledPhase_registers (s : State) :
    (ledPhase s).registers = { s with gs := lockChannels s.gs (lockRead s).1 }.registers := by
  rw [ledPhase, sendFrame_registers, updateLeds_registers]

/-! ### What a dispatcher operation writes (R122 to R127) -/

/-- The state in which key k, with layout entry e, has gone down or up and the report is yet to be sent. -/
def State.keyEvent (s : State) (k : KeyIndex) (e : LayoutEntry) (down : Bool) : State :=
  { s.setPressed k down with
    q := if e.isModifier then s.q
         else if down then s.q.insert s.cfg.overflowPolicy k else s.q.remove s.cfg.overflowPolicy k
    modMask := if e.isModifier then (if down then s.modMask ||| e.code else s.modMask &&& ~~~e.code)
               else s.modMask }

section
variable {k : KeyIndex} {e : LayoutEntry} {s t : State}

theorem pressModifier_eq (he : e.isModifier = true) : pressModifier k e s = sendReport (s.keyEvent k e true) := by
  simp [pressModifier, State.keyEvent, he]

theorem releaseModifier_eq (he : e.isModifier = true) :
    releaseModifier k e s = sendReport (s.keyEvent k e false) := by
  simp [releaseModifier, State.keyEvent, he]

theorem pressKey_eq (he : e.isModifier = false) : pressKey k s = sendReport (s.keyEvent k e true) := by
  simp [pressKey, State.keyEvent, he]

theorem releaseKey_eq (he : e.isModifier = false) : releaseKey k s = sendReport (s.keyEvent k e false) := by
  simp [releaseKey, State.keyEvent, he]

/-- A report writes no register. -/
theorem sendReport_registers (h : sendReport s = .next t) : t.registers = s.registers := by
  obtain ⟨r, -, rfl⟩ := sendReport_eq_next h
  rfl

/-- R121: the operation an edge selects is none, or takes the key down or up and sends the report. -/
theorem dispatchEdge_eq_next {ed : Edge} (h : dispatchEdge k ed s = .next t) :
    (ed = .none ∧ t = s) ∨
    ∃ e down, s.cfg.entry? k = some e ∧ ed = (if down then .press else .release) ∧
      sendReport (s.keyEvent k e down) = .next t := by
  cases he : s.cfg.entry? k with
  | none => cases ed <;> simp_all [dispatchEdge]
  | some e =>
    cases ed with
    | none => exact .inl ⟨rfl, by simpa [dispatchEdge] using h.symm⟩
    | press =>
      refine .inr ⟨e, true, rfl, rfl, ?_⟩
      cases hm : e.isModifier with
      | true => simpa [dispatchEdge, he, hm, pressModifier_eq] using h
      | false => simpa [dispatchEdge, he, hm, ← pressKey_eq hm] using h
    | release =>
      refine .inr ⟨e, false, rfl, rfl, ?_⟩
      cases hm : e.isModifier with
      | true => simpa [dispatchEdge, he, hm, releaseModifier_eq] using h
      | false => simpa [dispatchEdge, he, hm, ← releaseKey_eq hm] using h
end

/-- R121: one round of the DISPATCH loop takes the key down or up if the edge says so, and consumes the edge. -/
theorem dispatchKey_eq_next {s t : State} {k : KeyIndex} (h : dispatchKey k s = .next t) :
    (s.edgeAt k = .none ∧ t = s.setEdge k .none) ∨
    ∃ e down, s.cfg.entry? k = some e ∧ s.edgeAt k = (if down then .press else .release) ∧
      t.registers = ((s.keyEvent k e down).setEdge k .none).registers := by
  obtain ⟨u, hu, ht⟩ := andThen_eq_next h
  cases ht
  refine (dispatchEdge_eq_next hu).imp (And.imp_right (congrArg fun v : State => v.setEdge k .none)) ?_
  rintro ⟨e, down, he, hed, hr⟩
  exact ⟨e, down, he, hed, congrArg (fun v : State => v.setEdge k .none) (sendReport_registers hr)⟩

/-- What every round of the DISPATCH loop keeps, the loop keeps. -/
theorem dispatchKeys_keeps {P : State → Prop}
    (hP : ∀ {k : KeyIndex} {s t : State}, dispatchKey k s = .next t → P s → P t)
    {ks : List KeyIndex} {s t : State} (h : dispatchKeys ks s = .next t) (hs : P s) : P t := by
  induction ks generalizing s with
  | nil =>
    cases h
    exact hs
  | cons k ks ih =>
    obtain ⟨u, hu, ht⟩ := andThen_eq_next h
    exact ih ht (hP hu hs)

/-- R162: a period event runs the scan, or is lost with the timer disabled. -/
theorem execTmrFire_eq_next {s t : State} (h : execTmrFire s = .next t) :
    (s.tmrEn = true ∧ runScan s = .next t) ∨ (s.tmrEn = false ∧ t = s) := by
  cases hen : s.tmrEn with
  | true => exact .inl ⟨rfl, by simpa [execTmrFire, hen] using h⟩
  | false => exact .inr ⟨rfl, by simpa [execTmrFire, hen] using h.symm⟩

/-! ### One induction over the writes of an operation -/

/-- What holds of the state an operation answers holds after the operation. -/
theorem of_next {P : State → Prop} {t u : State} (h : (.next u : Result) = .next t) (hu : P u) : P t :=
  Host.Outcome.next.inj h ▸ hu

/-- What holds of the state an operation on a key answers holds after the operation. -/
theorem of_onKey_next {P : State → Prop} {s t : State} {k : KeyIndex} {f : State → State}
    (h : onKey k s (fun u => .next (f u)) = .next t) (hf : P (f s)) : P t :=
  of_next (onKey_eq_next h).2 hf

/-- What holds of the registers holds of every state with these registers. -/
theorem of_registers {P : State → Prop} {s t : State} (h : t.registers = s.registers) (hs : P s.registers) :
    P t.registers :=
  h ▸ hs

/-- What is read from the registers alone reads the same in all states with the same registers. -/
theorem read_eq_of_registers {α : Type} {s t : State} (read : State → α)
    (hread : ∀ u : State, read u.registers = read u) (h : t.registers = s.registers) : read t = read s := by
  rw [← hread t, h, hread s]

/-- P outlives every write of the sampler, the filter, the LED driver and the scheduler, and of the devices and
inputs. A field about a register that P does not read is filled in by itself. -/
structure KeptOffDispatch (P : State → Prop) : Prop where
  outside : ∀ {s t : State}, t.registers = s.registers → P s → P t
  hist : ∀ (s : State) (k : KeyIndex) (v : Byte), P s → P (s.setHist k v) := by exact fun _ _ _ hs => hs
  edge : ∀ (s : State) (k : KeyIndex) (e : Edge), P s → P (s.setEdge k e) := by exact fun _ _ _ hs => hs
  timer : ∀ (s : State) (b : Bool), P s → P { s with tmrEn := b } := by exact fun _ _ hs => hs
  phase : ∀ (s : State) (p : Phase), P s → P (s.setPhase p) := by exact fun _ _ hs => hs
  leds : ∀ (s : State) (lock : Byte), P s → P { s with gs := lockChannels s.gs lock } := by exact fun _ _ hs => hs

/-- P outlives every write of every operation but RESET. -/
structure Kept (P : State → Prop) : Prop extends KeptOffDispatch P where
  keyEvent : ∀ (s : State) (k : KeyIndex) (e : LayoutEntry) (down : Bool),
    s.cfg.entry? k = some e → P s → P (s.keyEvent k e down) := by exact fun _ _ _ _ _ hs => hs

namespace KeptOffDispatch

variable {P : State → Prop} (hP : KeptOffDispatch P) {s t : State}
include hP

theorem sampleKey (k : KeyIndex) (hs : P s) : P (sampleKey s k) := by
  obtain ⟨v, hv⟩ := sampleKey_registers s k
  exact hP.outside hv (hP.hist s k v hs)

theorem snapshotMatrix (hs : P s) : P (snapshotMatrix s) :=
  List.foldlRecOn _ _ (hP.outside (latchMatrix_registers s) hs) fun _ hb k _ => hP.sampleKey k hb

theorem evalKey (k : KeyIndex) (hs : P s) : P (evalKey s k) :=
  hP.hist _ k _ (hP.edge s k _ hs)

theorem evalKeys (hs : P s) : P (evalKeys s) :=
  List.foldlRecOn _ _ hs fun _ hb k _ => hP.evalKey k hb

theorem enterHandler (hs : P s) : P (enterHandler s) :=
  hP.phase _ _ (hP.timer s false hs)

theorem leaveHandler (hs : P s) : P (leaveHandler s) :=
  hP.timer _ true (hP.phase s _ hs)

theorem updateLeds (hs : P s) : P (updateLeds s) :=
  hP.outside (updateLeds_registers s) (hP.leds s _ hs)

theorem ledPhase (hs : P s) : P (ledPhase s) :=
  hP.outside (ledPhase_registers s) (hP.leds s _ hs)

theorem sampleAndFilter (hs : P s) : P (sampleAndFilter s) :=
  hP.evalKeys (hP.phase _ _ (hP.snapshotMatrix (hP.enterHandler hs)))

theorem ledAndLeave (hs : P s) : P (ledAndLeave s) :=
  hP.leaveHandler (hP.ledPhase (hP.phase s _ hs))

/-- P outlives a report. -/
theorem sendReport (h : sendReport s = .next t) (hs : P s) : P t :=
  hP.outside (sendReport_registers h) hs

end KeptOffDispatch

namespace Kept

variable {P : State → Prop} (hP : Kept P) {s t : State}
include hP

theorem dispatchKey {k : KeyIndex} (h : dispatchKey k s = .next t) (hs : P s) : P t := by
  rcases dispatchKey_eq_next h with ⟨-, rfl⟩ | ⟨e, down, he, -, ht⟩
  · exact hP.edge s k .none hs
  · exact hP.outside ht (hP.edge _ k .none (hP.keyEvent s k e down he hs))

theorem dispatchKeys {ks : List KeyIndex} (h : dispatchKeys ks s = .next t) (hs : P s) : P t :=
  dispatchKeys_keeps hP.dispatchKey h hs

theorem runScan (h : runScan s = .next t) (hs : P s) : P t := by
  obtain ⟨u, hu, ht⟩ := andThen_eq_next h
  exact of_next ht (hP.ledAndLeave (hP.dispatchKeys hu (hP.phase _ _ (hP.sampleAndFilter hs))))

/-- What every write of an operation keeps, the operation keeps (RESET apart). -/
theorem exec {i : Instr} (h : exec i s = .next t) (hreset : i = .reset → P (resetCore s)) (hs : P s) : P t := by
  cases i with
  | smpLatch => exact of_next h (hP.outside (latchMatrix_registers s) hs)
  | smpRead k => exact of_onKey_next (f := (Machine.sampleKey · k)) h (hP.sampleKey k hs)
  | smpSnapshot => exact of_next h (hP.snapshotMatrix hs)
  | dbnPressEdge k => exact of_onKey_next (f := (·.setEdge k .press)) h (hP.edge s k _ hs)
  | dbnReleaseEdge k => exact of_onKey_next (f := (·.setEdge k .release)) h (hP.edge s k _ hs)
  | dbnHold k => exact of_onKey_next (f := (·.setEdge k .none)) h (hP.edge s k _ hs)
  | dbnShift k => exact of_onKey_next (f := (shiftKey · k)) h (hP.hist s k _ hs)
  | dbnEval => exact of_next h (hP.evalKeys hs)
  | kevPressKey k =>
    obtain ⟨e, he, hm, hk⟩ := onKeyOfKind_eq_next h
    exact hP.sendReport (pressKey_eq hm ▸ hk) (hP.keyEvent s k e true he hs)
  | kevPressMod k =>
    obtain ⟨e, he, hm, hk⟩ := onKeyOfKind_eq_next h
    exact hP.sendReport (pressModifier_eq hm ▸ hk) (hP.keyEvent s k e true he hs)
  | kevReleaseKey k =>
    obtain ⟨e, he, hm, hk⟩ := onKeyOfKind_eq_next h
    exact hP.sendReport (releaseKey_eq hm ▸ hk) (hP.keyEvent s k e false he hs)
  | kevReleaseMod k =>
    obtain ⟨e, he, hm, hk⟩ := onKeyOfKind_eq_next h
    exact hP.sendReport (releaseModifier_eq hm ▸ hk) (hP.keyEvent s k e false he hs)
  | rptSend => exact hP.sendReport h hs
  | ledUpdate => exact of_next h (hP.updateLeds hs)
  | ledBit c b => exact of_next h (hP.outside (shiftBit_registers s (c, b)) hs)
  | ledCommit => exact of_next h (hP.outside (commitFrame_registers s) hs)
  | ledFrame => exact of_next h (hP.outside (sendFrame_registers s) hs)
  | tmrFire =>
    rcases execTmrFire_eq_next h with ⟨-, hr⟩ | ⟨-, rfl⟩
    · exact hP.runScan hr hs
    · exact hs
  | tmrDisable => exact of_next h (hP.timer s false hs)
  | tmrEnable => exact of_next h (hP.timer s true hs)
  | scan => exact hP.runScan (s := s) h hs
  | idle => exact of_next h hs
  | reset => exact of_next h (hreset rfl)

end Kept

/-- Taking the event writes no register but the model's own port and the events to come. -/
theorem fetch_frame (s : State) :
    (fetch s).2 = { s with events := (fetch s).2.events, draws := (fetch s).2.draws, opPort := [] } := by
  cases hp : s.opPort with
  | cons b bs => simp [fetch, hp]
  | nil =>
    cases he : s.events with
    | nil => simp [fetch, hp, he]
    | cons ev es => cases ev <;> simp [fetch, hp, he]

/-- What every operation keeps, RESET among them, and taking the event keeps, every step keeps. -/
theorem Kept.step {P : State → Prop} (hP : Kept P) {s t : State} (h : step s = .next t)
    (hfetch : ∀ (es : List Event) (n : Nat) (bs : List Byte),
      P s → P { s with events := es, draws := n, opPort := bs })
    (hreset : ∀ u, P u → P (resetCore u)) (hs : P s) : P t := by
  obtain ⟨i, rest, -, hi⟩ := step_eq_next h
  have hu : P ((fetch s).2.offer rest) := by
    rw [fetch_frame]
    exact hfetch _ _ rest hs
  exact hP.exec hi (fun _ => hreset _ hu) hu

/-! ### Invariants of the registers (R20, R25, R26, R42, R43, R146) -/

/-- R141: the lock channels take the values of the lock bits, the other 21 channels stay. -/
theorem lockChannels_get (gs : Vector Gray 24) (lock : Byte) (c : Fin 24) :
    (lockChannels gs lock)[c] =
      if c = 11 then lockGray (lock.getLsbD 2) else if c = 10 then lockGray (lock.getLsbD 1)
      else if c = 9 then lockGray (lock.getLsbD 0) else gs[c] := by
  simp [lockChannels, Vector.getElem_set, Fin.ext_iff, eq_comm]

/-- R82: a lock bit drives its channel off or fully on. -/
theorem lockGray_off_or_full (b : Bool) : lockGray b = 0x000#12 ∨ lockGray b = 0xFFF#12 := by
  cases b
  · exact .inl rfl
  · exact .inr rfl

theorem reservedDark_kept : Kept State.ReservedDark where
  outside h hs := of_registers (P := State.ReservedDark) h hs
  leds s lock hs c h9 h10 h11 := by
    rw [lockChannels_get, if_neg h11, if_neg h10, if_neg h9]
    exact hs c h9 h10 h11

theorem lockChannelsFull_kept : Kept State.LockChannelsFull where
  outside h hs := of_registers (P := State.LockChannelsFull) h hs
  leds s lock _ c hc := by
    rw [lockChannels_get]
    rcases hc with rfl | rfl | rfl <;> exact lockGray_off_or_full _

theorem chainEnabled_kept : Kept State.ChainEnabled where
  outside h hs := of_registers (P := State.ChainEnabled) h hs

theorem portEmpty_kept : Kept fun s => s.opPort = [] where
  outside h hs := of_registers (P := fun s => s.opPort = []) h hs

theorem sized_kept : Kept State.Sized where
  outside h hs := of_registers (P := State.Sized) h hs
  hist _ _ _ hs := by simpa [State.Sized] using hs
  edge _ _ _ hs := by simpa [State.Sized] using hs
  keyEvent _ _ _ _ _ hs := by simpa [State.Sized, State.keyEvent] using hs

section
variable {s : State} (hs : s.Sized)
include hs

theorem State.Sized.hist_length : s.hist.length = s.cfg.n := hs.1

theorem State.Sized.pressed_length : s.pressed.length = s.cfg.n := hs.2.1

theorem State.Sized.edge_length : s.edge.length = s.cfg.n := hs.2.2

end

/-! ### The modifier mask (R25, R42) -/

/-- A key with a layout entry is below N. -/
theorem lt_of_entry? {p : Params} {k : KeyIndex} {e : LayoutEntry} (h : p.entry? k = some e) : k.toNat < p.n :=
  (entry?_isSome_iff p k).1 (by rw [h]; rfl)

/-- A bit of an OR over keys is set if it was set before or a key brings it. -/
theorem getLsbD_foldl_or (f : KeyIndex → Byte) (ks : List KeyIndex) (m : Byte) (i : Nat) :
    (ks.foldl (fun m k => m ||| f k) m).getLsbD i = (m.getLsbD i || ks.any fun k => (f k).getLsbD i) := by
  induction ks generalizing m with
  | nil => simp
  | cons k ks ih => simp [ih, Bool.or_assoc]

/-- The mask is right if its set bits are those of the pressed modifier keys. -/
theorem modMaskOk_iff (s : State) :
    s.ModMaskOk ↔ ∀ i < 8, s.modMask.getLsbD i = true ↔
      ∃ k : KeyIndex, k.toNat < s.cfg.n ∧ s.pressedAt k = true ∧ (modifierCode s.cfg k).getLsbD i = true := by
  have hbit : ∀ i,
      ((s.keys.filter s.pressedAt).foldl (fun m k => m ||| modifierCode s.cfg k) 0x00#8).getLsbD i = true ↔
      ∃ k : KeyIndex, k.toNat < s.cfg.n ∧ s.pressedAt k = true ∧ (modifierCode s.cfg k).getLsbD i = true := by
    intro i
    simp [getLsbD_foldl_or, mem_keys]
  constructor
  · intro h i _
    rw [h, hbit]
  · intro h
    exact BitVec.eq_of_getLsbD_eq fun i hi => Bool.eq_iff_iff.2 ((h i hi).trans (hbit i).symm)

/-- R42: the code of another modifier key has no bit of this key's code. -/
theorem ModifiersDisjoint.getLsbD_eq_false {p : Params} (hd : ModifiersDisjoint p) {j k : KeyIndex} {i : Nat}
    (hj : j.toNat < p.n) (hk : k.toNat < p.n) (hne : j ≠ k) (hbit : (modifierCode p k).getLsbD i = true) :
    (modifierCode p j).getLsbD i = false := by
  have hmem : ∀ l : KeyIndex, l.toNat < p.n → l ∈ (List.range p.n).map (BitVec.ofNat 8) :=
    fun l hl => (mem_keys (s := State.resetWith p)).2 hl
  have : Std.Symm fun k l => modifierCode p k &&& modifierCode p l = 0x00#8 :=
    ⟨fun k l h => (BitVec.and_comm _ _).trans h⟩
  have hz := hd.forall (hmem j hj) (hmem k hk) hne
  simpa [hbit] using congrArg (BitVec.getLsbD · i) hz

/-- R122, R125: a key event sets the bits of the key's code in the mask to 1 on the way down and to 0 on the way up; a key
that is no modifier has no such bits. -/
theorem getLsbD_modMask_keyEvent {s : State} {k : KeyIndex} {e : LayoutEntry} {down : Bool} {i : Nat}
    (he : s.cfg.entry? k = some e) (hi : i < 8) :
    (s.keyEvent k e down).modMask.getLsbD i =
      if (modifierCode s.cfg k).getLsbD i then down else s.modMask.getLsbD i := by
  cases hm : e.isModifier with
  | false => simp [State.keyEvent, modifierCode, he, hm]
  | true =>
    have hcode : modifierCode s.cfg k = e.code := by simp [modifierCode, he, hm]
    have hmask : (s.keyEvent k e down).modMask = if down then s.modMask ||| e.code else s.modMask &&& ~~~e.code := by
      simp [State.keyEvent, hm]
    rw [hcode, hmask]
    cases down <;> cases hb : e.code[i] <;> simp [hb, hi]

/-- A key reads as pressed after a key event if it is the key that went down, or was pressed before. -/
theorem pressedAt_keyEvent {s : State} {k : KeyIndex} (e : LayoutEntry) (down : Bool)
    (hk : k.toNat < s.pressed.length) (j : KeyIndex) :
    (s.keyEvent k e down).pressedAt j = if j = k then down else s.pressedAt j := by
  split
  · next h => exact h ▸ s.pressedAt_setPressed_same k down hk
  · next h => exact s.pressedAt_setPressed_ne k j down (Ne.symm h)

/-- R42: a key event keeps the mask right, when the codes of the modifiers share no bit. -/
theorem modMaskOk_keyEvent {s : State} {k : KeyIndex} {e : LayoutEntry} (down : Bool)
    (hd : ModifiersDisjoint s.cfg) (hsized : s.Sized) (he : s.cfg.entry? k = some e) (hs : s.ModMaskOk) :
    (s.keyEvent k e down).ModMaskOk := by
  have hk := lt_of_entry? he
  have hpressed := pressedAt_keyEvent (s := s) e down (hsized.pressed_length ▸ hk)
  rw [modMaskOk_iff] at hs ⊢
  intro i hi
  rw [getLsbD_modMask_keyEvent he hi]
  change _ ↔ ∃ j : KeyIndex, j.toNat < s.cfg.n ∧ _ ∧ (modifierCode s.cfg j).getLsbD i = true
  simp only [hpressed]
  cases hbit : (modifierCode s.cfg k).getLsbD i with
  | true =>
    rw [if_pos rfl]
    constructor
    · intro hdown
      exact ⟨k, hk, by rw [if_pos rfl, hdown], hbit⟩
    · rintro ⟨j, hj, hjp, hjb⟩
      by_cases hjk : j = k
      · simpa [hjk] using hjp
      · simp [hd.getLsbD_eq_false hj hk hjk hbit] at hjb
  | false =>
    have hne : ∀ j, (modifierCode s.cfg j).getLsbD i = true → j ≠ k := by
      rintro j hjb rfl
      simp [hbit] at hjb
    rw [if_neg Bool.false_ne_true, hs i hi]
    refine exists_congr fun j => and_congr_right fun _ => and_congr_left fun hjb => ?_
    rw [if_neg (hne j hjb)]

theorem modMask_kept : Kept fun s => ModifiersDisjoint s.cfg ∧ s.Sized ∧ s.ModMaskOk where
  outside h hs := of_registers (P := fun u => ModifiersDisjoint u.cfg ∧ u.Sized ∧ u.ModMaskOk) h hs
  hist s k v := And.imp_right (And.imp_left (sized_kept.hist s k v))
  edge s k e := And.imp_right (And.imp_left (sized_kept.edge s k e))
  keyEvent s k e down he hs := by
    obtain ⟨hd, hsized, hmask⟩ := hs
    exact ⟨hd, sized_kept.keyEvent s k e down he hsized, modMaskOk_keyEvent down hd hsized he hmask⟩

/-! ### The state after reset (R200) -/

theorem sized_resetWith (p : Params) : (State.resetWith p).Sized := by
  simp [State.Sized, State.resetWith]

theorem reservedDark_resetWith (p : Params) : (State.resetWith p).ReservedDark := by
  intro c _ _ _
  simp [State.resetWith]

theorem modMaskOk_resetWith (p : Params) : (State.resetWith p).ModMaskOk := by
  have hp : ∀ k, (State.resetWith p).pressedAt k = false := by
    intro k
    simp only [State.pressedAt, State.resetWith, List.getD_eq_getElem?_getD, List.getElem?_replicate]
    split <;> rfl
  rw [State.ModMaskOk, List.filter_eq_nil_iff.2 fun k _ => by simp [hp]]
  rfl

/-- R200: the state after reset meets the invariant between scans. -/
theorem inv_resetWith {p : Params} (hp : p.overflowPolicy = .evictOldest) : (State.resetWith p).Inv where
  sized := sized_resetWith p
  policy := hp
  lowBit h hh := by simp [List.eq_of_mem_replicate hh]
  noEdges _ he := List.eq_of_mem_replicate he
  queue := ⟨[], by simp [State.resetWith, Queue.slots, Queue.empty, emptySlot]⟩
  reserved := reservedDark_resetWith p
  lockChannels c _ := .inl (by simp [State.resetWith])
  timer := rfl
  phase := rfl
  chainEnabled := rfl
  portEmpty := rfl

/-! ### The queue (R38 to R41, R123, R126) -/

/-- R123: an insertion puts the key in front and drops slot 5; the spare slot stays. -/
theorem slots_pushFront (q : Queue) (k : Slot) : (q.pushFront k).slots = k :: q.slots.take 5 ++ [q.q6] := rfl

/-- R126: a removal erases the first slot that holds the key and fills up from the spare slot, which stays. -/
theorem slots_compactFrom_search (q : Queue) (k : Slot) :
    (q.compactFrom (q.search k)).slots =
      if k ∈ q.reported then q.slots.erase k ++ [q.q6] else q.slots := by
  have hmem : k ∈ q.reported ↔ q.q0 = k ∨ q.q1 = k ∨ q.q2 = k ∨ q.q3 = k ∨ q.q4 = k ∨ q.q5 = k := by
    simp [Queue.reported, eq_comm]
  simp only [hmem, Queue.search]
  split_ifs <;> simp_all [Queue.compactFrom, Queue.slots]

/-- R38: the spare slot is empty, for at most six slots are live. -/
theorem spare_eq_empty {q : Queue} {live : List KeyIndex} (hlen : live.length ≤ 6)
    (hq : q.slots = live ++ List.replicate (7 - live.length) 0xFF#8) : q.q6 = 0xFF#8 := by
  have h6 : q.slots[6]? = some q.q6 := rfl
  rw [hq, List.getElem?_append_right hlen, List.getElem?_replicate, if_pos (by omega)] at h6
  exact (Option.some.inj h6).symm

/-- R38, R123: live entries in front stay in front when a key is inserted, and a sixth one falls out. -/
theorem slots_pushFront_live {q : Queue} {live : List KeyIndex} (k : KeyIndex) (hlen : live.length ≤ 6)
    (hq : q.slots = live ++ List.replicate (7 - live.length) 0xFF#8) :
    (q.pushFront k).slots =
      (k :: live.take 5) ++ List.replicate (7 - (k :: live.take 5).length) 0xFF#8 := by
  rw [slots_pushFront, hq, spare_eq_empty hlen hq, List.take_append, List.take_replicate]
  have hn : 7 - (k :: live.take 5).length = min (5 - live.length) (7 - live.length) + 1 := by
    simp only [List.length_cons, List.length_take]
    omega
  rw [hn, List.replicate_succ']
  simp

/-- R38, R126: live entries in front stay in front when a key is removed. -/
theorem slots_compactFrom_live {q : Queue} {live : List KeyIndex} {k : KeyIndex} (hk : k ≠ 0xFF#8)
    (hlen : live.length ≤ 6) (hq : q.slots = live ++ List.replicate (7 - live.length) 0xFF#8) :
    (q.compactFrom (q.search k)).slots =
      live.erase k ++ List.replicate (7 - (live.erase k).length) 0xFF#8 := by
  have hspare := spare_eq_empty hlen hq
  have hmem : k ∈ q.reported ↔ k ∈ live := by
    calc k ∈ q.reported
      _ ↔ k ∈ q.slots := by simp [Queue.slots, Queue.reported, hspare, hk]
      _ ↔ k ∈ live := by simp [hq, hk]
  simp only [slots_compactFrom_search, hmem, hspare, hq]
  split
  · next h =>
    have hpos := List.length_pos_of_mem h
    have hn : 7 - (live.erase k).length = 7 - live.length + 1 := by
      rw [List.length_erase_of_mem h]
      omega
    rw [List.erase_append_left _ h, hn, List.replicate_succ', List.append_assoc]
  · next h => rw [List.erase_of_not_mem h]

/-- R39 to R41: the queue reads the parameters, the flags and the slots only. -/
theorem queueOk_keptOffDispatch : KeptOffDispatch State.QueueOk where
  outside h hs := of_registers (P := State.QueueOk) h hs

/-- R37 to R41: the press of a key that was not pressed, and the release of any key, keep the queue in order. -/
theorem queueOk_keyEvent {s : State} {k : KeyIndex} {e : LayoutEntry} {down : Bool}
    (he : s.cfg.entry? k = some e) (hsized : s.Sized) (hpolicy : s.cfg.overflowPolicy = .evictOldest)
    (hdown : down = true → s.pressedAt k = false) (hs : s.QueueOk) : (s.keyEvent k e down).QueueOk := by
  obtain ⟨live, hlen, hnodup, hslots, hlive⟩ := hs
  have hpressed := pressedAt_keyEvent (s := s) e down (hsized.pressed_length ▸ lt_of_entry? he)
  have hother : ∀ j ∈ live, j ≠ k →
      s.cfg.keyOfKind j false = true ∧ (s.keyEvent k e down).pressedAt j = true := by
    intro j hj hjk
    rw [hpressed, if_neg hjk]
    exact hlive j hj
  cases hm : e.isModifier with
  | true =>
    have hk : ∀ j ∈ live, j ≠ k := by
      rintro j hj rfl
      simpa [Params.keyOfKind, he, hm] using (hlive j hj).1
    exact ⟨live, hlen, hnodup, by simpa [State.keyEvent, hm] using hslots, fun j hj => hother j hj (hk j hj)⟩
  | false =>
    have hkind : s.cfg.keyOfKind k false = true := (keyOfKind_iff _ _ _).2 ⟨e, he, hm⟩
    cases down with
    | true =>
      have hk : k ∉ live := fun hj => by simpa [hdown rfl] using (hlive k hj).2
      refine ⟨k :: live.take 5, by simp, ?_, ?_, ?_⟩
      · exact List.nodup_cons.2 ⟨fun hj => hk (List.mem_of_mem_take hj), hnodup.sublist (List.take_sublist 5 live)⟩
      · simpa [State.keyEvent, hm, hpolicy, Queue.insert] using slots_pushFront_live k hlen hslots
      · intro j hj
        rcases List.mem_cons.1 hj with rfl | hj
        · exact ⟨hkind, by rw [hpressed, if_pos rfl]⟩
        · have hmem := List.mem_of_mem_take hj
          exact hother j hmem fun hjk => hk (hjk ▸ hmem)
    | false =>
      refine ⟨live.erase k, List.length_erase_le.trans hlen, hnodup.erase k, ?_, ?_⟩
      · simpa [State.keyEvent, hm, hpolicy, Queue.remove] using
          slots_compactFrom_live (keyOfKind_ne_empty hkind) hlen hslots
      · intro j hj
        have hj' := (hnodup.mem_erase_iff).1 hj
        exact hother j hj'.2 hj'.1

/-! ### The filter and the dispatcher within a scan (R37, R104 to R109, R121) -/

/-- A property of every key's entry of a list is one of every entry. -/
theorem forall_mem_of_forall_getD {α : Type} {l : List α} {d : α} {Q : α → Prop} (hl : l.length ≤ 256)
    (h : ∀ k : KeyIndex, Q (l.getD k.toNat d)) : ∀ x ∈ l, Q x := by
  intro x hx
  obtain ⟨i, hi, rfl⟩ := List.mem_iff_getElem.1 hx
  simpa [Nat.mod_eq_of_lt (by omega : i < 256), hi] using h (BitVec.ofNat 8 i)

/-- An entry reads as it was written, or as a missing one. -/
theorem getD_set_self_or {α : Type} (l : List α) (i : Nat) (a d : α) :
    (l.set i a).getD i d = a ∨ (l.set i a).getD i d = d := by
  by_cases h : i < l.length
  · exact .inl (by simp [List.getD_eq_getElem?_getD, h])
  · exact .inr (List.getD_eq_default _ _ (by simpa using h))

/-- R108: aging leaves bit 0 of the key's history at 0. -/
theorem histAt_evalKey_self_low (s : State) (k : KeyIndex) : ((evalKey s k).histAt k).getLsbD 0 = false := by
  rcases getD_set_self_or s.hist k.toNat (ageHistory (s.histAt k)) 0x00#8 with h | h
  · exact (congrArg (BitVec.getLsbD · 0) h).trans (by simp [ageHistory])
  · exact congrArg (BitVec.getLsbD · 0) h

/-- R37: the filter's loop leaves bit 0 of every history it meets at 0, and sets it nowhere. -/
theorem histAt_foldl_evalKey_low {k : KeyIndex} (ks : List KeyIndex) {s : State}
    (h : k ∈ ks ∨ (s.histAt k).getLsbD 0 = false) : ((ks.foldl evalKey s).histAt k).getLsbD 0 = false := by
  induction ks generalizing s with
  | nil => simpa using h
  | cons j ks ih =>
    apply ih
    by_cases hjk : j = k
    · exact .inr (hjk ▸ histAt_evalKey_self_low s j)
    · have hother : (evalKey s j).histAt k = s.histAt k := State.histAt_setHist_ne _ j k _ hjk
      rw [hother]
      exact h.imp_left fun hk => (List.mem_cons.1 hk).resolve_left (Ne.symm hjk)

/-- R37: after the filter's loop bit 0 of every history is 0. -/
theorem evalKeys_low {s : State} (hs : s.Sized) : ∀ h ∈ (evalKeys s).hist, h.getLsbD 0 = false := by
  have hlen := (sized_kept.evalKeys hs).hist_length
  have hn := n_bounds s.cfg
  rw [evalKeys_cfg] at hlen
  refine forall_mem_of_forall_getD (d := 0x00#8) (by omega) fun k => histAt_foldl_evalKey_low s.keys ?_
  by_cases hk : k.toNat < s.cfg.n
  · exact .inl (mem_keys.2 hk)
  · have hz : s.histAt k = 0x00#8 := List.getD_eq_default _ _ (by rw [hs.hist_length]; omega)
    exact .inr (by rw [hz]; rfl)

/-- A press edge stands only at a key that is not pressed (R105). -/
def State.PressEdgesOpen (s : State) : Prop :=
  ∀ k : KeyIndex, s.edgeAt k = .press → s.pressedAt k = false

/-- An edge reads as it was written for its key, or as before. -/
theorem State.edgeAt_setEdge (s : State) (j k : KeyIndex) (e : Edge) :
    (j = k ∧ (s.setEdge j e).edgeAt k = e) ∨ (s.setEdge j e).edgeAt k = s.edgeAt k := by
  by_cases hjk : j = k
  · subst hjk
    by_cases hj : j.toNat < s.edge.length
    · exact .inl ⟨rfl, s.edgeAt_setEdge_same j e hj⟩
    · exact .inr (by rw [State.setEdge, List.set_eq_of_length_le (by omega)])
  · exact .inr (s.edgeAt_setEdge_ne j k e hjk)

/-- A consumed edge is gone, whether the key has one or not (R121). -/
theorem State.edgeAt_setEdge_none (s : State) (j k : KeyIndex) :
    (s.setEdge j .none).edgeAt k = if j = k then .none else s.edgeAt k := by
  split
  · next h => exact h ▸ (getD_set_self_or s.edge j.toNat .none .none).elim id id
  · next h => exact s.edgeAt_setEdge_ne j k .none h

/-- R104, R105: the comparator gives a press edge to a released key only. -/
theorem selectEdge_eq_press {p : Bool} {h : Byte} (he : selectEdge (comparatorWord p h) = .press) : p = false := by
  have hw : comparatorWord p h = comparatorWord false patPress := by
    by_contra hne
    rw [selectEdge, if_neg hne] at he
    split at he <;> cases he
  have hbit := congrArg (BitVec.getLsbD · 8) hw
  simp only [comparatorWord, BitVec.getLsbD_append] at hbit
  simpa using hbit

/-- R103: the SAMPLE phase writes no edge. -/
theorem snapshotMatrix_edge (s : State) : (snapshotMatrix s).edge = s.edge := by
  have hkey : ∀ u k, (sampleKey u k).edge = u.edge := fun u k => by rw [sampleKey_eq]
  rw [snapshotMatrix, foldl_keeps hkey]
  exact read_eq_of_registers State.edge (fun _ => rfl) (latchMatrix_registers s)

/-- With no edge pending no press edge is. -/
theorem pressEdgesOpen_of_noEdges {s : State} (hs : ∀ e ∈ s.edge, e = .none) : s.PressEdgesOpen := by
  intro k hk
  have hlt : k.toNat < s.edge.length := by
    by_contra hge
    rw [State.edgeAt, List.getD_eq_default _ _ (by omega)] at hk
    cases hk
  rw [State.edgeAt, List.getD_eq_getElem _ _ hlt, hs _ (List.getElem_mem hlt)] at hk
  cases hk

/-- R105: the filter emits press edges for released keys only. -/
theorem pressEdgesOpen_evalKeys {s : State} (hs : s.PressEdgesOpen) : (evalKeys s).PressEdgesOpen := by
  refine List.foldlRecOn (motive := State.PressEdgesOpen) _ _ hs fun u hu k _ j hj => ?_
  change (compareKey u k).edgeAt j = .press at hj
  change u.pressedAt j = false
  rcases u.edgeAt_setEdge k j (selectEdge (comparatorWord (u.pressedAt k) (u.histAt k))) with ⟨rfl, h⟩ | h
  · exact selectEdge_eq_press (h.symm.trans hj)
  · exact hu j (h.symm.trans hj)

/-- What the DISPATCH loop needs of the state, and keeps (R121). -/
structure State.DispatchReady (s : State) : Prop where
  sized : s.Sized
  policy : s.cfg.overflowPolicy = .evictOldest
  queue : s.QueueOk
  pressEdgesOpen : s.PressEdgesOpen

/-- R121: a round of the DISPATCH loop consumes the edge of its key and no other. -/
theorem dispatchKey_edgeAt {s t : State} {j : KeyIndex} (h : dispatchKey j s = .next t) (k : KeyIndex) :
    t.edgeAt k = if j = k then .none else s.edgeAt k := by
  rcases dispatchKey_eq_next h with ⟨-, rfl⟩ | ⟨e, down, -, -, ht⟩
  · exact s.edgeAt_setEdge_none j k
  · have hedge : t.edgeAt k = ((s.keyEvent j e down).setEdge j .none).edgeAt k :=
      read_eq_of_registers (·.edgeAt k) (fun _ => rfl) ht
    rw [hedge, State.edgeAt_setEdge_none]
    rfl

/-- R121: the DISPATCH loop leaves no edge of its keys, and brings none. -/
theorem dispatchKeys_edgeAt {k : KeyIndex} {ks : List KeyIndex} {s t : State} (h : dispatchKeys ks s = .next t)
    (hk : k ∈ ks ∨ s.edgeAt k = .none) : t.edgeAt k = .none := by
  induction ks generalizing s with
  | nil =>
    cases h
    simpa using hk
  | cons j ks ih =>
    obtain ⟨u, hu, ht⟩ := andThen_eq_next h
    refine ih ht ?_
    rw [dispatchKey_edgeAt hu]
    split
    · exact .inr rfl
    · next hjk => exact hk.imp_left fun hk => (List.mem_cons.1 hk).resolve_left (Ne.symm hjk)

/-- R26: after the DISPATCH loop over all keys no edge is pending. -/
theorem dispatchPhase_noEdges {s t : State} (h : dispatchPhase s = .next t) (hs : s.Sized) :
    ∀ e ∈ t.edge, e = .none := by
  have hlen := (sized_kept.dispatchKeys h hs).edge_length
  have hn := n_bounds t.cfg
  refine forall_mem_of_forall_getD (l := t.edge) (d := .none) (Q := (· = .none)) (by omega) fun k => ?_
  refine dispatchKeys_edgeAt h ?_
  by_cases hk : k.toNat < s.cfg.n
  · exact .inl (mem_keys.2 hk)
  · exact .inr (List.getD_eq_default _ _ (by rw [State.setPhase_edge, hs.edge_length]; omega))

/-- R121: a round of the DISPATCH loop keeps the queue in order and the other keys' edges as the filter left them. -/
theorem dispatchReady_dispatchKey {s t : State} {k : KeyIndex} (h : dispatchKey k s = .next t)
    (hs : s.DispatchReady) : t.DispatchReady := by
  have hcfg := dispatchKey_cfg h
  refine ⟨sized_kept.dispatchKey h hs.sized, by rw [hcfg]; exact hs.policy, ?_, ?_⟩
  · rcases dispatchKey_eq_next h with ⟨-, rfl⟩ | ⟨e, down, he, hed, ht⟩
    · exact queueOk_keptOffDispatch.edge s k .none hs.queue
    · have hdown : down = true → s.pressedAt k = false :=
        fun hd => hs.pressEdgesOpen k (by simpa [hd] using hed)
      exact queueOk_keptOffDispatch.outside ht
        (queueOk_keptOffDispatch.edge _ k .none (queueOk_keyEvent he hs.sized hs.policy hdown hs.queue))
  · intro j hj
    rw [dispatchKey_edgeAt h] at hj
    split at hj
    · cases hj
    · next hkj =>
      have hopen := hs.pressEdgesOpen j hj
      rcases dispatchKey_eq_next h with ⟨-, rfl⟩ | ⟨e, down, -, -, ht⟩
      · exact hopen
      · have hp : t.pressedAt j = ((s.keyEvent k e down).setEdge k .none).pressedAt j :=
          read_eq_of_registers (·.pressedAt j) (fun _ => rfl) ht
        exact hp.trans ((s.pressedAt_setPressed_ne k j down hkj).trans hopen)

/-- The DISPATCH loop writes no history. -/
theorem dispatchKey_hist {k : KeyIndex} {s t : State} (h : dispatchKey k s = .next t) : t.hist = s.hist := by
  rcases dispatchKey_eq_next h with ⟨-, rfl⟩ | ⟨e, down, -, -, ht⟩
  · rfl
  · exact (read_eq_of_registers State.hist (fun _ => rfl) ht :)

/-- The DISPATCH phase writes no history. -/
theorem dispatchPhase_hist {s t : State} (h : dispatchPhase s = .next t) : t.hist = s.hist :=
  dispatchKeys_keeps (P := fun u => u.hist = s.hist) (fun hk hu => (dispatchKey_hist hk).trans hu) h rfl

/-- The DISPATCH phase keeps the queue in order. -/
theorem dispatchReady_dispatchPhase {s t : State} (h : dispatchPhase s = .next t) (hs : s.DispatchReady) :
    t.DispatchReady :=
  dispatchKeys_keeps dispatchReady_dispatchKey h { hs with }

/-! ### A scan and a step of the hardware (R19, R87, R166) -/

/-- R100, R105, R121: what the FILTER phase leaves is ready for the DISPATCH loop. -/
theorem dispatchReady_sampleAndFilter {s : State} (hs : s.Inv) : (sampleAndFilter s).DispatchReady where
  sized := sized_kept.sampleAndFilter hs.sized
  policy := by rw [sampleAndFilter_cfg]; exact hs.policy
  queue := queueOk_keptOffDispatch.sampleAndFilter hs.queue
  pressEdgesOpen := by
    apply pressEdgesOpen_evalKeys
    apply pressEdgesOpen_of_noEdges
    rw [State.setPhase_edge, snapshotMatrix_edge]
    exact hs.noEdges

/-- R37: the FILTER phase leaves bit 0 of every history at 0. -/
theorem sampleAndFilter_low {s : State} (hs : s.Sized) : ∀ h ∈ (sampleAndFilter s).hist, h.getLsbD 0 = false :=
  evalKeys_low (sized_kept.phase _ _ (sized_kept.snapshotMatrix (sized_kept.enterHandler hs)))

/-- R145, R188: of the registers, phase 4 and the return write the lock channels, the timer and the phase. -/
theorem ledAndLeave_registers (s : State) :
    ∃ gs, (ledAndLeave s).registers = { s with gs := gs, tmrEn := true, phase := .idle }.registers := by
  have hleave : ∀ u : State, (leaveHandler u).registers = leaveHandler u.registers := fun _ => rfl
  rw [ledAndLeave, hleave, ledPhase_registers]
  exact ⟨_, rfl⟩

/-- R37 to R44: a scan keeps the invariant between scans. -/
theorem inv_runScan {s t : State} (h : runScan s = .next t) (hs : s.Inv) : t.Inv := by
  obtain ⟨u, hu, ht⟩ := andThen_eq_next h
  have hfilter := dispatchReady_sampleAndFilter hs
  have hready := dispatchReady_dispatchPhase hu hfilter
  have hlow : ∀ v ∈ u.hist, v.getLsbD 0 = false := by
    rw [dispatchPhase_hist hu]
    exact sampleAndFilter_low hs.sized
  have hedges := dispatchPhase_noEdges hu hfilter.sized
  have hleave : ledAndLeave u = t := Host.Outcome.next.inj ht
  obtain ⟨gs, hregs⟩ := ledAndLeave_registers u
  rw [hleave] at hregs
  exact
    { sized := sized_kept.runScan h hs.sized
      policy := by rw [runScan_cfg h]; exact hs.policy
      lowBit := by rw [read_eq_of_registers State.hist (fun _ => rfl) hregs]; exact hlow
      noEdges := by rw [read_eq_of_registers State.edge (fun _ => rfl) hregs]; exact hedges
      queue := hleave ▸ queueOk_keptOffDispatch.ledAndLeave hready.queue
      reserved := reservedDark_kept.runScan h hs.reserved
      lockChannels := lockChannelsFull_kept.runScan h hs.lockChannels
      timer := read_eq_of_registers State.tmrEn (fun _ => rfl) hregs
      phase := read_eq_of_registers State.phase (fun _ => rfl) hregs
      chainEnabled := chainEnabled_kept.runScan h hs.chainEnabled
      portEmpty := portEmpty_kept.runScan h hs.portEmpty }

/-- R87, R200: with an empty port the step is selected by the RESET event or by the timer's select word. -/
theorem fetch_of_portEmpty {s : State} (hport : s.opPort = []) :
    (fetch s).1 = encode .reset ∨ ∃ b, (fetch s).1 = timerImage s.tmrEn b := by
  cases he : s.events with
  | nil => exact .inr ⟨Config.freeTick s.draws, by simp [fetch, hport, he]⟩
  | cons ev es =>
    cases ev with
    | reset => exact .inl (by simp [fetch, hport, he])
    | tick => exact .inr ⟨true, by simp [fetch, hport, he]⟩
    | quiet => exact .inr ⟨false, by simp [fetch, hport, he]⟩

/-- R87, R200: with an empty port a step takes an event and runs RESET, TMR.FIRE or IDLE. -/
theorem step_of_portEmpty {s t : State} (hport : s.opPort = []) (h : step s = .next t) :
    ∃ i es n, (i = .reset ∨ i = .tmrFire ∨ i = .idle) ∧
      exec i { s with events := es, draws := n, opPort := [] } = .next t := by
  obtain ⟨i, rest, hdec, hi⟩ := step_eq_next h
  have hsel : (i = .reset ∨ i = .tmrFire ∨ i = .idle) ∧ rest = [] := by
    rcases fetch_of_portEmpty hport with hf | ⟨b, hf⟩ <;> rw [hf] at hdec
    · cases hdec
      exact ⟨.inl rfl, rfl⟩
    · rw [decode_timerImage] at hdec
      cases hdec
      exact ⟨.inr (ite_eq_or_eq _ _ _), rfl⟩
  obtain ⟨hsel, rfl⟩ := hsel
  rw [fetch_frame] at hi
  exact ⟨i, _, _, hsel, hi⟩

/-- R200: RESET reaches the invariant between scans when the port is empty. -/
theorem inv_resetCore {s : State} (hs : s.Inv) : (resetCore s).Inv :=
  { inv_resetWith (p := s.cfg) hs.policy with portEmpty := hs.portEmpty }

/-- R37 to R44: the operations that the hardware's events select keep the invariant between scans. -/
theorem inv_exec {i : Instr} {s t : State} (hi : i = .reset ∨ i = .tmrFire ∨ i = .idle)
    (h : exec i s = .next t) (hs : s.Inv) : t.Inv := by
  rcases hi with rfl | rfl | rfl
  · exact of_next h (inv_resetCore hs)
  · rcases execTmrFire_eq_next h with ⟨-, hr⟩ | ⟨-, rfl⟩
    · exact inv_runScan hr hs
    · exact hs
  · exact of_next h hs

end Sys2Proof.Machine

namespace Sys2Proof.Proofs

open Sys2Proof.Machine

/-- Settles O55: with an empty port a step runs RESET, a scan or nothing, and each keeps the invariant. -/
theorem stepKeepsInvariant : Obligations.StepKeepsInvariant := by
  intro s t hs h
  obtain ⟨i, es, n, hi, he⟩ := step_of_portEmpty hs.portEmpty h
  exact inv_exec hi he { hs with portEmpty := rfl }

/-- Settles O52: only LED.UPDATE and RESET write the grayscale buffer, and neither lights a reserved channel. -/
theorem stepKeepsReservedChannelsDark : Obligations.StepKeepsReservedChannelsDark := by
  intro s t hs h
  exact reservedDark_kept.step h (fun _ _ _ hu => hu) (fun u _ => reservedDark_resetWith u.cfg) hs

/-- Settles O53: a key event moves the bits of its own code in the mask and no others, since the codes share none. -/
theorem stepKeepsModifierMask : Obligations.StepKeepsModifierMask := by
  refine ⟨modMaskOk_resetWith, fun s t hd hsized hmask h => ?_⟩
  exact (modMask_kept.step h (fun _ _ _ hu => hu)
    (fun u hu => ⟨hu.1, sized_resetWith u.cfg, modMaskOk_resetWith u.cfg⟩) ⟨hd, hsized, hmask⟩).2

/-- Settles O54: R200's values meet the invariant on every board. -/
theorem resetStateMeetsInvariant : Obligations.ResetStateMeetsInvariant :=
  ⟨fun _ => inv_resetWith, inv_resetWith rfl⟩

end Sys2Proof.Proofs
end

section
/-! Proofs about what an operation reads and takes from outside (R16, R54, R62, R192), and about one whole scan: that it
runs to its end, what it leaves alone, and what the lock byte can reach (R57, R141, R166). -/

namespace Sys2Proof.Machine

/-! ### Operations refused for their key (R54, R60, R85) -/

theorem onKeyOfKind_of_not_lt {m : Bool} {k : KeyIndex} {s : State} (h : ¬ k.toNat < s.cfg.n)
    (f : LayoutEntry → State → Result) : onKeyOfKind m k s f = .refused .keyOutOfRange := by
  have hnone : s.cfg.entry? k = none := by
    rw [← Option.not_isSome_iff_eq_none, entry?_isSome_iff]
    exact h
  rw [onKeyOfKind, hnone]

theorem onKeyOfKind_of_other_kind {m : Bool} {k : KeyIndex} {s : State} {e : LayoutEntry}
    (h : s.cfg.entry? k = some e) (hm : e.isModifier ≠ m) (f : LayoutEntry → State → Result) :
    onKeyOfKind m k s f = .refused .keyOfOtherKind := by
  simp only [onKeyOfKind, h, if_neg hm]

/-! ### The matrix chain and the SAMPLE phase (R62, R101, R192) -/

/-- SMP.LATCH: two writes of SR_LOAD, and the next snapshot in the matrix chain (R62, R101). -/
theorem latchMatrix_eq (s : State) :
    latchMatrix s =
      { s with
        pins := { s.pins with srLoad := !s.cfg.loadActive }
        chain := s.snapshots.headD []
        snapshots := s.snapshots.tail
        trace := [.delay, .pin .srLoad (!s.cfg.loadActive), .delay, .pin .srLoad s.cfg.loadActive] ++ s.trace } := by
  have hup := pinWrite_srLoad_assert s
  have hdown := pinWrite_srLoad_deassert (delay (pinWrite .srLoad s.cfg.loadActive s))
  simp only [latchMatrix, pinWriteDelay]
  rw [hup] at hdown ⊢
  simpa [delay, State.emit] using congrArg delay hdown

/-- R103: the SAMPLE phase takes one snapshot. -/
theorem snapshotMatrix_snapshots (s : State) : (snapshotMatrix s).snapshots = s.snapshots.tail := by
  have hkey : ∀ u k, (sampleKey u k).snapshots = u.snapshots := fun u k => by rw [sampleKey_eq]
  rw [snapshotMatrix, foldl_keeps hkey, latchMatrix_eq]

/-- R109: the FILTER phase takes no snapshot. -/
theorem evalKeys_snapshots (s : State) : (evalKeys s).snapshots = s.snapshots :=
  foldl_keeps (f := evalKey) (get := State.snapshots) (fun _ _ => rfl) s.keys s

theorem sampleAndFilter_snapshots (s : State) : (sampleAndFilter s).snapshots = s.snapshots.tail := by
  rw [sampleAndFilter, evalKeys_snapshots, State.setPhase_snapshots, snapshotMatrix_snapshots]
  rfl

/-! ### Lock bytes are nothing to the phases 1 to 3 (R57) -/

/-- The state with other lock bytes to come. -/
def State.withLocks (s : State) (ls : List Byte) : State := { s with locks := ls }

theorem sampleKey_withLocks (s : State) (ls : List Byte) (k : KeyIndex) :
    sampleKey (s.withLocks ls) k = (sampleKey s k).withLocks ls := by
  rw [sampleKey_eq, sampleKey_eq]
  rfl

theorem snapshotMatrix_withLocks (s : State) (ls : List Byte) :
    snapshotMatrix (s.withLocks ls) = (snapshotMatrix s).withLocks ls := by
  have hlatch : latchMatrix (s.withLocks ls) = (latchMatrix s).withLocks ls := by
    rw [latchMatrix_eq, latchMatrix_eq]
    rfl
  rw [snapshotMatrix, hlatch]
  exact List.foldl_hom (State.withLocks · ls) fun u k => sampleKey_withLocks u ls k

theorem evalKeys_withLocks (s : State) (ls : List Byte) :
    evalKeys (s.withLocks ls) = (evalKeys s).withLocks ls :=
  List.foldl_hom (State.withLocks · ls) fun _ _ => rfl

/-- R166: the SAMPLE and FILTER phases neither read nor take a lock byte. -/
theorem sampleAndFilter_withLocks (s : State) (ls : List Byte) :
    sampleAndFilter (s.withLocks ls) = (sampleAndFilter s).withLocks ls := by
  have henter : enterHandler (s.withLocks ls) = (enterHandler s).withLocks ls := rfl
  rw [sampleAndFilter, henter, snapshotMatrix_withLocks]
  exact evalKeys_withLocks ((snapshotMatrix (enterHandler s)).setPhase .filter) ls

theorem sampleAndFilter_locks (s : State) : (sampleAndFilter s).locks = s.locks :=
  (congrArg State.locks (sampleAndFilter_withLocks s s.locks) :)

/-! ### The DISPATCH loop: when it completes, and its frame (R121, R128) -/

section
variable {s t : State} {k : KeyIndex}

/-- R128: a report that can be built is sent. -/
theorem sendReport_of_report {r : Report} (h : buildReport? s.cfg s.q s.modMask = some r) :
    sendReport s = .next (s.emit (.report r)) := by
  rw [sendReport, h]
  rfl

/-- R92, R128: a report is sent when every slot of the queue holds a key index or is empty. -/
theorem sendReport_of_slotsValid (hs : s.SlotsValid) : ∃ r, sendReport s = .next (s.emit (.report r)) := by
  have hcode : ∀ v ∈ s.q.slots, ∃ c, slotCode? s.cfg v = some c := fun v hv => slotCode?_of_valid (hs v hv)
  simp only [Queue.slots, List.forall_mem_cons] at hcode
  obtain ⟨⟨c0, h0⟩, ⟨c1, h1⟩, ⟨c2, h2⟩, ⟨c3, h3⟩, ⟨c4, h4⟩, ⟨c5, h5⟩, -⟩ := hcode
  refine ⟨⟨s.modMask, #v[c0, c1, c2, c3, c4, c5]⟩, sendReport_of_report ?_⟩
  simp only [buildReport?, h0, h1, h2, h3, h4, h5]

/-- R121: an edge of a key takes the key down or up and sends the report. -/
theorem dispatchEdge_of_entry {e : LayoutEntry} (he : s.cfg.entry? k = some e) (down : Bool) :
    dispatchEdge k (if down then .press else .release) s = sendReport (s.keyEvent k e down) := by
  cases hm : e.isModifier with
  | true =>
    cases down with
    | true => simp [dispatchEdge, he, hm, pressModifier_eq hm]
    | false => simp [dispatchEdge, he, hm, releaseModifier_eq hm]
  | false =>
    cases down with
    | true => simp [dispatchEdge, he, hm, pressKey_eq hm]
    | false => simp [dispatchEdge, he, hm, releaseKey_eq hm]

/-- R123: a shift to the back brings no slot value but the key in front. -/
theorem mem_slots_pushFront {q : Queue} {v : Slot} (h : v ∈ (q.pushFront k).slots) : v = k ∨ v ∈ q.slots := by
  simp only [slots_pushFront, List.cons_append, List.mem_cons, List.mem_append] at h
  rcases h with h | h | h
  · exact .inl h
  · exact .inr (List.mem_of_mem_take h)
  · exact .inr (List.mem_of_mem_drop (i := 6) (List.mem_cons.2 h))

/-- R123, R124: an insertion brings no slot value but the key. -/
theorem mem_slots_insert {policy : OverflowPolicy} {q : Queue} {v : Slot}
    (h : v ∈ (q.insert policy k).slots) : v = k ∨ v ∈ q.slots := by
  cases policy with
  | evictOldest => exact mem_slots_pushFront h
  | rejectNewest =>
    simp only [Queue.insert] at h
    split at h
    · exact mem_slots_pushFront h
    · exact .inr h
  | parkInSpare =>
    have hslots : (q.insert .parkInSpare k).slots = k :: q.slots.take 6 := rfl
    rw [hslots, List.mem_cons] at h
    exact h.imp_right List.mem_of_mem_take

/-- R126: closing a gap brings no new slot value. -/
theorem mem_slots_compactFrom_search {q : Queue} {v : Slot} (h : v ∈ (q.compactFrom (q.search k)).slots) :
    v ∈ q.slots := by
  rw [slots_compactFrom_search] at h
  split at h
  · rcases List.mem_append.1 h with h | h
    · exact List.mem_of_mem_erase h
    · exact List.mem_of_mem_drop (i := 6) h
  · exact h

/-- A write of the spare slot brings no slot value but the one written. -/
theorem mem_slots_setSpare {q : Queue} {v x : Slot} (h : v ∈ { q with q6 := x }.slots) : v = x ∨ v ∈ q.slots := by
  have hslots : { q with q6 := x }.slots = q.slots.take 6 ++ [x] := rfl
  rw [hslots, List.mem_append, List.mem_singleton] at h
  exact h.symm.imp_right List.mem_of_mem_take

/-- R124, R126: a removal brings no slot value but `EMPTY`. -/
theorem mem_slots_remove {policy : OverflowPolicy} {q : Queue} {v : Slot}
    (h : v ∈ (q.remove policy k).slots) : v = emptySlot ∨ v ∈ q.slots := by
  cases policy with
  | evictOldest => exact .inr (mem_slots_compactFrom_search h)
  | rejectNewest => exact .inr (mem_slots_compactFrom_search h)
  | parkInSpare =>
    simp only [Queue.remove, Queue.removeParking] at h
    split at h
    · exact (mem_slots_setSpare h).imp_right mem_slots_compactFrom_search
    · split at h
      · exact mem_slots_setSpare h
      · exact .inr h

/-- R78, R92: a key event puts only its key or `EMPTY` into the queue. -/
theorem slotsValid_keyEvent {e : LayoutEntry} {down : Bool} (he : s.cfg.entry? k = some e) (hs : s.SlotsValid) :
    (s.keyEvent k e down).SlotsValid := by
  intro v hv
  change v = 0xFF#8 ∨ v.toNat < s.cfg.n
  simp only [State.keyEvent] at hv
  split at hv
  · exact hs v hv
  · split at hv
    · rcases mem_slots_insert hv with rfl | hv
      · exact .inr (lt_of_entry? he)
      · exact hs v hv
    · exact (mem_slots_remove hv).elim .inl (hs v)

theorem slotsValid_kept : Kept State.SlotsValid where
  outside h hs := of_registers (P := State.SlotsValid) h hs
  keyEvent _ _ _ _ he hs := slotsValid_keyEvent he hs

/-- R121: a round of the DISPATCH loop completes for every key when the slots are valid. -/
theorem exists_dispatchKey (hk : k.toNat < s.cfg.n) (hs : s.SlotsValid) : ∃ t, dispatchKey k s = .next t := by
  suffices hedge : ∃ u, dispatchEdge k (s.edgeAt k) s = .next u by
    obtain ⟨u, hu⟩ := hedge
    exact ⟨u.setEdge k .none, by rw [dispatchKey, hu, andThen_next]⟩
  obtain ⟨e, he⟩ := Option.isSome_iff_exists.1 ((entry?_isSome_iff s.cfg k).2 hk)
  have hsend : ∀ down : Bool, ∃ u, dispatchEdge k (if down then .press else .release) s = .next u := by
    intro down
    obtain ⟨r, hr⟩ := sendReport_of_slotsValid (slotsValid_keyEvent (down := down) he hs)
    exact ⟨_, (dispatchEdge_of_entry he down).trans hr⟩
  cases s.edgeAt k with
  | none => exact ⟨s, rfl⟩
  | press => exact hsend true
  | release => exact hsend false

theorem exists_dispatchKeys {ks : List KeyIndex} (hks : ∀ k ∈ ks, k.toNat < s.cfg.n) (hs : s.SlotsValid) :
    ∃ t, dispatchKeys ks s = .next t := by
  induction ks generalizing s with
  | nil => exact ⟨s, rfl⟩
  | cons k ks ih =>
    obtain ⟨hk, hks⟩ := List.forall_mem_cons.1 hks
    obtain ⟨u, hu⟩ := exists_dispatchKey hk hs
    rw [← dispatchKey_cfg hu] at hks
    obtain ⟨t, ht⟩ := ih hks (slotsValid_kept.dispatchKey hu hs)
    exact ⟨t, by rw [dispatchKeys, hu, andThen_next, ht]⟩

/-- R121: a round of the DISPATCH loop reaches no lock byte to come, and no lock byte reaches it. -/
theorem dispatchKey_withLocks (h : dispatchKey k s = .next t) (ls : List Byte) :
    dispatchKey k (s.withLocks ls) = .next (t.withLocks ls) := by
  obtain ⟨u, hu, ht⟩ := andThen_eq_next h
  cases ht
  suffices hedge : dispatchEdge k ((s.withLocks ls).edgeAt k) (s.withLocks ls) = .next (u.withLocks ls) by
    rw [dispatchKey, hedge, andThen_next]
    rfl
  change dispatchEdge k (s.edgeAt k) (s.withLocks ls) = _
  rcases dispatchEdge_eq_next hu with ⟨hed, rfl⟩ | ⟨e, down, he, hed, hr⟩
  · rw [hed]
    rfl
  · rw [hed, dispatchEdge_of_entry (s := s.withLocks ls) he]
    obtain ⟨r, hbuild, rfl⟩ := sendReport_eq_next hr
    exact sendReport_of_report (s := (s.keyEvent k e down).withLocks ls) hbuild

theorem dispatchKeys_withLocks {ks : List KeyIndex} (h : dispatchKeys ks s = .next t) (ls : List Byte) :
    dispatchKeys ks (s.withLocks ls) = .next (t.withLocks ls) := by
  induction ks generalizing s with
  | nil =>
    cases h
    rfl
  | cons k ks ih =>
    obtain ⟨u, hu, ht⟩ := andThen_eq_next h
    rw [dispatchKeys, dispatchKey_withLocks hu, andThen_next, ih ht]

/-- R121: a round of the DISPATCH loop writes `pressed`, the queue, the mask, the edges and the trace alone. -/
theorem dispatchKey_frame (h : dispatchKey k s = .next t) :
    t = { s with pressed := t.pressed, q := t.q, modMask := t.modMask, edge := t.edge, trace := t.trace } := by
  obtain ⟨u, hu, ht⟩ := andThen_eq_next h
  cases ht
  rcases dispatchEdge_eq_next hu with ⟨-, rfl⟩ | ⟨e, down, -, -, hr⟩
  · rfl
  · obtain ⟨r, -, rfl⟩ := sendReport_eq_next hr
    rfl

/-- R121: so does the whole loop. -/
theorem dispatchKeys_frame {ks : List KeyIndex} (h : dispatchKeys ks s = .next t) :
    t = { s with pressed := t.pressed, q := t.q, modMask := t.modMask, edge := t.edge, trace := t.trace } := by
  refine dispatchKeys_keeps (P := fun u => u =
    { s with pressed := u.pressed, q := u.q, modMask := u.modMask, edge := u.edge, trace := u.trace })
    (fun hk hu => ?_) h rfl
  rw [hu] at hk
  exact (dispatchKey_frame hk :)

end

/-! ### The LED phase (R141 to R145, R193) -/

/-- The LED chain's shift register after one more bit (R193). -/
def shiftIn (w : ChainWord) (b : Bool) : ChainWord := (w <<< 1) ||| (BitVec.ofBool b).setWidth 288

/-- The LED chain's shift register after the bits of a frame (R83, R193). -/
def shiftFrame (gs : Vector Gray 24) (w : ChainWord) : ChainWord :=
  framePositions.foldl (fun w cb => shiftIn w (frameBit gs cb.1 cb.2)) w

/-- A lock read takes the next lock byte, or draws a free one (R57). -/
theorem lockRead_eq (s : State) :
    lockRead s =
      (s.locks.headD (Config.freeLock s.draws),
       { s with locks := s.locks.tail, draws := if s.locks = [] then s.draws + 1 else s.draws }) := by
  cases h : s.locks with
  | nil => simp [lockRead_nil h, h]
  | cons b bs => simp [lockRead_cons h]

/-- All that LED.BIT does (R142). -/
theorem shiftBit_eq (s : State) (cb : Fin 24 × Fin 12) :
    shiftBit s cb =
      { s with
        pins := { s.pins with ledClk := true, ledData := frameBit s.gs cb.1 cb.2 }
        ledSr := shiftIn s.ledSr (frameBit s.gs cb.1 cb.2)
        trace := [.delay, .pin .ledClk true, .delay, .pin .ledData (frameBit s.gs cb.1 cb.2), .delay,
                  .pin .ledClk false] ++ s.trace } := by
  simp only [shiftBit, pinWriteDelay, pinWrite_ledClk_low, pinWrite_ledData, delay, State.emit]
  rw [pinWrite_ledClk_rise _ rfl]
  rfl

/-- All that LED.COMMIT does (R143). -/
theorem commitFrame_eq (s : State) :
    commitFrame s =
      { s with
        pins := { s.pins with ledClk := false, ledLatch := false }
        ledOut := if s.pins.ledLatch then s.ledOut else s.ledSr
        trace := [.pin .ledLatch false, .delay, .pin .ledLatch true, .delay, .pin .ledClk false] ++ s.trace } := by
  simp only [commitFrame, pinWriteDelay, pinWrite_ledClk_low, pinWrite_ledLatch_high, pinWrite_ledLatch_low, delay,
    State.emit]
  rfl

/-- R144: the bits of a frame go to the LED chain and touch the two pins of the chain and the trace alone. -/
theorem foldl_shiftBit_frame (l : List (Fin 24 × Fin 12)) (s : State) :
    ∃ clk data trace, l.foldl shiftBit s =
      { s with
        pins := { s.pins with ledClk := clk, ledData := data }
        ledSr := l.foldl (fun w cb => shiftIn w (frameBit s.gs cb.1 cb.2)) s.ledSr
        trace := trace } := by
  induction l generalizing s with
  | nil => exact ⟨_, _, _, rfl⟩
  | cons cb l ih =>
    obtain ⟨clk, data, trace, h⟩ := ih (shiftBit s cb)
    refine ⟨clk, data, trace, ?_⟩
    rw [List.foldl_cons, h, shiftBit_eq]
    rfl

/-- R83: from the last bit to the first, a frame is channel 0 from bit 0 up, then channel 1, and so on. -/
theorem framePositions_reverse :
    framePositions.reverse = List.ofFn fun i : Fin (24 * 12) => (i.divNat, i.modNat) := by
  rw [framePositions, List.reverse_flatMap, List.reverse_reverse, List.ofFn_mul, List.flatMap_def,
    ← List.ofFn_eq_map]
  refine congrArg List.flatten (List.ofFn_inj.2 (funext fun c => ?_))
  rw [Function.comp_apply, ← List.map_reverse, List.reverse_reverse, ← List.ofFn_eq_map]
  refine List.ofFn_inj.2 (funext fun b => ?_)
  simp only [Fin.divNat, Fin.modNat, Prod.mk.injEq, Fin.ext_iff]
  omega

/-- R83: the last bit of a frame is bit 0 of channel 0. -/
theorem framePositions_eq_append : ∃ l, framePositions = l ++ [(0, 0)] :=
  ⟨_, List.reverse_eq_cons_iff.1 (framePositions_reverse.trans List.ofFn_succ)⟩

theorem foldl_shiftBit_framePositions (s : State) :
    ∃ trace, framePositions.foldl shiftBit s =
      { s with
        pins := { s.pins with ledClk := true, ledData := s.gs[0].getLsbD 0 }
        ledSr := shiftFrame s.gs s.ledSr
        trace := trace } := by
  obtain ⟨l, hl⟩ := framePositions_eq_append
  obtain ⟨clk, data, trace, h⟩ := foldl_shiftBit_frame l s
  rw [shiftFrame, hl, List.foldl_append, List.foldl_append, h]
  exact ⟨_, shiftBit_eq _ _⟩

/-- R144: LED.FRAME puts the frame into both registers of the LED chain, and touches its pins and the trace alone. -/
theorem sendFrame_frame (s : State) :
    ∃ trace, sendFrame s =
      { s with
        pins := { s.pins with ledClk := false, ledLatch := false, ledData := s.gs[0].getLsbD 0 }
        ledSr := shiftFrame s.gs s.ledSr
        ledOut := shiftFrame s.gs s.ledSr
        trace := trace } := by
  obtain ⟨trace, h⟩ := foldl_shiftBit_framePositions (pinWriteDelay .ledLatch false s)
  rw [sendFrame, h, commitFrame_eq, pinWriteDelay, pinWrite_ledLatch_low]
  simp only [delay, State.emit, Bool.false_eq_true, if_false]
  exact ⟨_, rfl⟩

/-- R145, R188: all that phase 4 and the return from the handler do, but for the trace. -/
theorem ledAndLeave_frame (s : State) :
    ∃ trace, ledAndLeave s =
      { s with
        gs := lockChannels s.gs (s.locks.headD (Config.freeLock s.draws))
        locks := s.locks.tail
        draws := if s.locks = [] then s.draws + 1 else s.draws
        pins := { s.pins with ledClk := false, ledLatch := false, ledData := s.gs[0].getLsbD 0 }
        ledSr := shiftFrame (lockChannels s.gs (s.locks.headD (Config.freeLock s.draws))) s.ledSr
        ledOut := shiftFrame (lockChannels s.gs (s.locks.headD (Config.freeLock s.draws))) s.ledSr
        tmrEn := true
        phase := .idle
        trace := trace } := by
  obtain ⟨trace, h⟩ := sendFrame_frame (updateLeds (s.setPhase .led))
  have h0 (lock : Byte) : (lockChannels s.gs lock)[0] = s.gs[0] := lockChannels_get s.gs lock 0
  refine ⟨trace, ?_⟩
  rw [ledAndLeave, ledPhase, h]
  simp only [updateLeds, lockRead_eq, State.setPhase, h0, leaveHandler, enableTimer]

/-- R55, R141, R145: phase 4 with a lock byte given, but for the trace. -/
theorem ledAndLeave_withLocks_cons (s : State) (l : Byte) (ls : List Byte) :
    ∃ trace, ledAndLeave (s.withLocks (l :: ls)) =
      { s with
        gs := lockChannels s.gs l
        locks := ls
        pins := { s.pins with ledClk := false, ledLatch := false, ledData := s.gs[0].getLsbD 0 }
        ledSr := shiftFrame (lockChannels s.gs l) s.ledSr
        ledOut := shiftFrame (lockChannels s.gs l) s.ledSr
        tmrEn := true
        phase := .idle
        trace := trace } :=
  ledAndLeave_frame (s.withLocks (l :: ls))

/-- R193: the bit shifted in stands at bit 0. -/
theorem getLsbD_shiftIn_zero (w : ChainWord) (b : Bool) : (shiftIn w b).getLsbD 0 = b := by
  simp [shiftIn]

/-- R193: every other bit has moved up by one. -/
theorem getLsbD_shiftIn_succ (w : ChainWord) (b : Bool) {i : Nat} (hi : i + 1 < 288) :
    (shiftIn w b).getLsbD (i + 1) = w.getLsbD i := by
  simp [shiftIn, -BitVec.getLsbD_eq_getElem, hi]

/-- R193: of the bits shifted in, the last is bit 0 of the chain, the one before it bit 1, and so on. -/
theorem getLsbD_foldr_shiftIn (bits : List Bool) (w : ChainWord) {i : Nat} (hi : i < 288) (hlen : i < bits.length) :
    (bits.foldr (fun b w => shiftIn w b) w).getLsbD i = bits[i] := by
  induction bits generalizing i with
  | nil => simp at hlen
  | cons b bits ih =>
    cases i with
    | zero => exact getLsbD_shiftIn_zero _ b
    | succ i => exact (getLsbD_shiftIn_succ _ b hi).trans (ih (by omega) (by simpa using hlen))

/-- R83, R193: after the bits of a frame output channel c of the chain holds the grayscale word of channel c. -/
theorem shiftFrame_channel (gs : Vector Gray 24) (w : ChainWord) (c : Fin 24) :
    (shiftFrame gs w).extractLsb' (12 * c.val) 12 = gs[c] := by
  have hfold : shiftFrame gs w =
      (List.ofFn fun i : Fin (24 * 12) => frameBit gs i.divNat i.modNat).foldr (fun b w => shiftIn w b) w := by
    rw [shiftFrame, List.foldl_eq_foldr_reverse, framePositions_reverse, List.ofFn_eq_map, List.ofFn_eq_map,
      List.foldr_map, List.foldr_map]
  refine BitVec.eq_of_getLsbD_eq fun b hb => ?_
  have hi : 12 * c.val + b < 24 * 12 := by omega
  have hc : (⟨12 * c.val + b, hi⟩ : Fin (24 * 12)).divNat = c := Fin.ext (by simp [Fin.divNat]; omega)
  have hm : ((⟨12 * c.val + b, hi⟩ : Fin (24 * 12)).modNat : Nat) = b := by simp [Fin.modNat]; omega
  rw [BitVec.getLsbD_extractLsb', hfold, getLsbD_foldr_shiftIn _ _ hi (by rwa [List.length_ofFn]), List.getElem_ofFn,
    frameBit, hc, hm]
  simp [hb]

/-! ### Outputs that are no reports (R18, R129) -/

/-- Outputs that are no reports leave the report trace as it was. -/
theorem reports_of_trace_append {s t : State} {os : List Output} (h : t.trace = os ++ s.trace)
    (hos : ∀ o ∈ os, o.isReport = false) : t.reports = s.reports := by
  rw [State.reports, State.reports, h, List.reverse_append, List.filterMap_append, List.append_right_eq_self,
    List.filterMap_eq_nil_iff]
  intro o ho
  have hrep := hos o (List.mem_reverse.1 ho)
  cases o with
  | report r => cases hrep
  | pin p v => rfl
  | delay => rfl

theorem shiftBit_reports (s : State) (cb : Fin 24 × Fin 12) : (shiftBit s cb).reports = s.reports :=
  reports_of_trace_append (congrArg State.trace (shiftBit_eq s cb)) (by simp [Output.isReport])

theorem commitFrame_reports (s : State) : (commitFrame s).reports = s.reports :=
  reports_of_trace_append (congrArg State.trace (commitFrame_eq s)) (by simp [Output.isReport])

/-- R169: phase 4 and the return from the handler send no report. -/
theorem ledAndLeave_reports (s : State) : (ledAndLeave s).reports = s.reports := by
  have hlatch (u : State) : (pinWriteDelay .ledLatch false u).reports = u.reports :=
    reports_of_trace_append (os := [.delay, .pin .ledLatch false]) (by rw [pinWriteDelay, pinWrite_ledLatch_low]; rfl)
      (by simp [Output.isReport])
  have hframe (u : State) : (sendFrame u).reports = u.reports := by
    rw [sendFrame, commitFrame_reports, foldl_keeps shiftBit_reports, hlatch]
  have hleave (u : State) : (leaveHandler u).reports = u.reports := rfl
  rw [ledAndLeave, hleave, ledPhase, hframe, updateLeds, lockRead_eq]
  rfl

/-! ### One whole scan (R166) -/

/-- R141, R166: no operation but RESET lights or darkens a channel that is no lock channel. -/
theorem otherChannels_kept (gs : Vector Gray 24) :
    Kept fun u => ∀ c : Fin 24, c ≠ 9 → c ≠ 10 → c ≠ 11 → u.gs[c] = gs[c] where
  outside h hs := of_registers (P := fun u => ∀ c : Fin 24, c ≠ 9 → c ≠ 10 → c ≠ 11 → u.gs[c] = gs[c]) h hs
  leds s lock hs c h9 h10 h11 := by
    rw [lockChannels_get, if_neg h11, if_neg h10, if_neg h9]
    exact hs c h9 h10 h11

/-- R55, R146: no operation but RESET writes LED_EN, the events to come or the operation port. -/
theorem enableEventsPort_kept (s : State) :
    Kept fun u => u.pins.ledEn = s.pins.ledEn ∧ u.events = s.events ∧ u.opPort = s.opPort where
  outside h hs := of_registers
    (P := fun u => u.pins.ledEn = s.pins.ledEn ∧ u.events = s.events ∧ u.opPort = s.opPort) h hs

section
variable {s u : State}

/-- R166: with valid slots the phases 1 to 3 run to their end. -/
theorem exists_dispatchPhase (hs : s.SlotsValid) : ∃ u, dispatchPhase (sampleAndFilter s) = .next u :=
  exists_dispatchKeys (s := (sampleAndFilter s).setPhase .dispatch) (fun _ hk => mem_keys.1 hk)
    (slotsValid_kept.phase _ _ (slotsValid_kept.sampleAndFilter hs))

/-- R166: a scan whose phases 1 to 3 complete completes. -/
theorem runScan_of_dispatchPhase (h : dispatchPhase (sampleAndFilter s) = .next u) :
    runScan s = .next (ledAndLeave u) := by
  rw [runScan, h, andThen_next]

/-- R57, R166: the lock bytes to come reach phase 4 as they are. -/
theorem runScan_withLocks (h : dispatchPhase (sampleAndFilter s) = .next u) (ls : List Byte) :
    runScan (s.withLocks ls) = .next (ledAndLeave (u.withLocks ls)) := by
  refine runScan_of_dispatchPhase ?_
  rw [sampleAndFilter_withLocks]
  exact dispatchKeys_withLocks h ls

end

end Sys2Proof.Machine

namespace Sys2Proof.Proofs

open Sys2Proof.Machine

/-- Settles O8: the RESET event stands for its own image, and nothing is left over at the port (R55). -/
theorem resetEventRunsReset : Obligations.ResetEventRunsReset := by
  intro s es hport hev
  have hfetch : fetch s = (encode .reset, { s with events := es }) := by simp only [fetch, hport, hev]
  have hdecode : decode (encode .reset) = .ok (.reset, []) := rfl
  have hoffer : ({ s with events := es } : State).offer [] = { s with events := es } := by
    rw [State.offer, hport]
  simp only [step, hfetch, hdecode, hoffer]

/-- Settles O15: a load takes the next snapshot, a clock pulse the next bit, and a free value is drawn only by a read of
an empty chain. -/
theorem matrixChainFollowsLines : Obligations.MatrixChainFollowsLines := by
  intro s
  refine ⟨⟨latchMatrix s, rfl, ?_, ?_⟩, fun k hk => ⟨sampleKey s k, exec_smpRead_of_lt hk, ?_, ?_⟩⟩
  · rw [latchMatrix_eq]
  · rw [latchMatrix_eq]
  · rw [sampleKey_eq]
  · rw [sampleKey_eq]

/-- Settles O30: every operation on a key asks first for the key, and the dispatcher operations for its kind (R54, R60). -/
theorem wrongKeysAreRefused : Obligations.WrongKeysAreRefused := by
  refine ⟨fun s k hk => ?_, fun s k e he => ⟨fun hm => ?_, fun hm => ?_⟩⟩
  · simp only [List.forall_mem_cons]
    exact ⟨onKey_of_not_lt hk fun t => .next (sampleKey t k), onKey_of_not_lt hk fun t => .next (t.setEdge k .press),
      onKey_of_not_lt hk fun t => .next (t.setEdge k .release), onKey_of_not_lt hk fun t => .next (t.setEdge k .none),
      onKey_of_not_lt hk fun t => .next (shiftKey t k), onKeyOfKind_of_not_lt hk _, onKeyOfKind_of_not_lt hk _,
      onKeyOfKind_of_not_lt hk _, onKeyOfKind_of_not_lt hk _, List.forall_mem_nil _⟩
  · have hne : e.isModifier ≠ false := by simp [hm]
    exact ⟨onKeyOfKind_of_other_kind he hne _, onKeyOfKind_of_other_kind he hne _⟩
  · have hne : e.isModifier ≠ true := by simp [hm]
    exact ⟨onKeyOfKind_of_other_kind he hne _, onKeyOfKind_of_other_kind he hne _⟩

/-- Settles O45: valid slots let every report of the DISPATCH loop be built, and no other phase can stop; the frame comes
phase by phase. -/
theorem scanRunsToItsEnd : Obligations.ScanRunsToItsEnd := by
  intro s hs
  obtain ⟨u, hu⟩ := exists_dispatchPhase hs
  have hscan := runScan_of_dispatchPhase hu
  have hdispatch := dispatchKeys_frame hu
  obtain ⟨hledEn, hevents, hport⟩ := (enableEventsPort_kept s).runScan hscan ⟨rfl, rfl, rfl⟩
  have hedge (k : KeyIndex) (hk : k.toNat < s.cfg.n) : u.edgeAt k = .none :=
    dispatchKeys_edgeAt hu (.inl (mem_keys.2 (by rwa [sampleAndFilter_cfg])))
  have hsnapshots : u.snapshots = s.snapshots.tail := by
    rw [hdispatch]
    exact sampleAndFilter_snapshots s
  have hlocks : u.locks = s.locks := by
    rw [hdispatch]
    exact sampleAndFilter_locks s
  obtain ⟨trace, hled⟩ := ledAndLeave_frame u
  refine ⟨ledAndLeave u, hscan, ?_, ?_, slotsValid_kept.runScan hscan hs, ?_, ?_, ?_, runScan_cfg hscan, hledEn, hevents,
    hport, (otherChannels_kept s.gs).runScan hscan fun _ _ _ _ => rfl, ?_⟩
  · rw [hled]
  · rw [hled]
  · rw [hled]
    exact hedge
  · rw [hled]
    exact hsnapshots
  · rw [hled]
    exact congrArg List.tail hlocks
  · intro c
    have hout : (ledAndLeave u).ledOut = shiftFrame (ledAndLeave u).gs u.ledSr := by rw [hled]
    rw [hout, shiftFrame_channel]

/-- Settles O57: the phases 1 to 3 commute with a change of the lock byte, and phase 4 shows it to the LED chain only. -/
theorem lockByteReachesOnlyLeds : Obligations.LockByteReachesOnlyLeds := by
  intro s l l' ls hs
  obtain ⟨u, hu⟩ := exists_dispatchPhase hs
  obtain ⟨trace, hled⟩ := ledAndLeave_withLocks_cons u l ls
  obtain ⟨trace', hled'⟩ := ledAndLeave_withLocks_cons u l' ls
  refine ⟨_, _, runScan_withLocks hu (l :: ls), runScan_withLocks hu (l' :: ls), ?_, ?_⟩
  · rw [ledAndLeave_reports, ledAndLeave_reports]
    rfl
  · rw [hled, hled']

end Sys2Proof.Proofs
end

section
/-! Proofs about operation images and the decoder (R75, R85 to R87, R90, R91), about what a step runs (R87, R90, R161 to
R168), and about the report, the DISPATCH loop and the LED frame (R83, R92, R93, R121, R128, R144). -/

namespace Sys2Proof

/-! ### Reading an image back (R75, R90) -/

/-- An image is read as its parts, and the bytes behind it are handed back. -/
theorem decode_imageOf (f : Byte) (sel : BitVec 16) (pos x y : Byte) (rest : List Byte) :
    decode (imageOf f sel pos x y ++ rest) = (decodeImage f sel pos x y).map fun i => (i, rest) := by
  have hsel : sel.extractLsb' 8 8 ++ sel.extractLsb' 0 8 = sel := by
    rw [BitVec.extractLsb'_append_extractLsb'_eq_extractLsb' (by rfl), BitVec.extractLsb'_eq_self]
  simp only [imageOf, List.cons_append, List.nil_append, decode, hsel]
  cases decodeImage f sel pos x y with
  | ok i => rfl
  | error e => rfl

/-- An image whose parts select an operation decodes to it. -/
theorem decode_imageOf_of_ok {f : Byte} {sel : BitVec 16} {pos x y : Byte} {i : Instr}
    (h : decodeImage f sel pos x y = .ok i) (rest : List Byte) :
    decode (imageOf f sel pos x y ++ rest) = .ok (i, rest) := by
  rw [decode_imageOf, h]
  rfl

/-- An operation on a key takes the key's byte as it is. -/
theorem keyOperation_zero (f : KeyIndex → Instr) (k : KeyIndex) : keyOperation f k 0 = .ok (f k) := rfl

/-- R142: the operand bytes of LED.BIT give its channel and bit back. -/
theorem bitOperation_ofNat (c : Fin 24) (b : Fin 12) :
    bitOperation (BitVec.ofNat 8 c.val) (BitVec.ofNat 8 b.val) = .ok (.ledBit c b) := by
  have hc : (BitVec.ofNat 8 c.val).toNat = c.val := Nat.mod_eq_of_lt (by omega)
  have hb : (BitVec.ofNat 8 b.val).toNat = b.val := Nat.mod_eq_of_lt (by omega)
  simp only [bitOperation, hc, hb, c.isLt, b.isLt, dite_true, Fin.eta]

/-- R77, R91: the two patterns select an edge, every other comparator word the hold. -/
theorem decodeComparator_setWidth (w : BitVec 9) (k : KeyIndex) :
    decodeComparator (w.setWidth 16) k 0 =
      .ok (if w = 0b001111111#9 then .dbnPressEdge k
           else if w = 0b110000000#9 then .dbnReleaseEdge k
           else .dbnHold k) := by
  have hlt : (w.setWidth 16).toNat < 512 := by
    rw [BitVec.toNat_setWidth_of_le (by omega)]
    exact w.isLt
  have hword (v : BitVec 9) : w.setWidth 16 = v.setWidth 16 ↔ w = v :=
    ⟨fun h => by bv_omega, congrArg _⟩
  have hpress : w.setWidth 16 = 0x07F#16 ↔ w = 0b001111111#9 := hword 0b001111111#9
  have hrelease : w.setWidth 16 = 0x180#16 ↔ w = 0b110000000#9 := hword 0b110000000#9
  simp only [decodeComparator, hlt, hpress, hrelease, if_true, keyOperation_zero]
  split_ifs <;> rfl

/-- R86: the phase selects 101, 110 and 111 are reserved at every position. -/
theorem decodePhase_reserved {sel : BitVec 16} (hlo : 5 ≤ sel.toNat) (hhi : sel.toNat < 8) (pos x y : Byte) :
    decodePhase sel pos x y = .error .reservedPhase := by
  unfold decodePhase
  split
  case h_14 => rw [if_neg (by omega), if_pos hhi]
  all_goals omega

/-- A table word leaves no bytes behind its image. -/
theorem decode_tableImage_rest {nbits w : Nat} {i : Instr} {rest : List Byte}
    (h : decode (tableImage nbits w) = .ok (i, rest)) : rest = [] := by
  unfold tableImage at h
  split at h
  · rw [← List.append_nil (imageOf _ _ _ _ _), decode_imageOf] at h
    cases hd : decodeImage (formatOfWidth nbits) (BitVec.ofNat 16 w) 0 0 0 with
    | ok j =>
      rw [hd] at h
      cases h
      rfl
    | error e =>
      rw [hd] at h
      cases h
  · cases h

theorem decodeTableWord_eq_some {nbits w : Nat} {i : Instr} (h : decodeTableWord nbits w = some i) :
    decode (tableImage nbits w) = .ok (i, []) := by
  unfold decodeTableWord at h
  split at h
  · rename_i j rest hd
    cases h
    rw [hd, decode_tableImage_rest hd]
  · cases h

end Sys2Proof

namespace Sys2Proof.Machine

/-! ### What a step runs (R87, R90, R161 to R168) -/

section
variable {s u : State} {bytes : List Byte}

/-- A step runs the operation that the fetched bytes decode to. -/
theorem step_of_decode {i : Instr} {rest : List Byte} (hf : fetch s = (bytes, u))
    (hd : decode bytes = .ok (i, rest)) : step s = exec i (u.offer rest) := by
  simp only [step, hf, hd]

/-- A step is refused when the fetched bytes are no image. -/
theorem step_of_decode_error {e : DecodeError} (hf : fetch s = (bytes, u)) (hd : decode bytes = .error e) :
    step s = .refused (.notAnImage e) := by
  simp only [step, hf, hd]

/-- The bytes at the operation port come before any event. -/
theorem fetch_of_port {b : Byte} {bs : List Byte} (h : s.opPort = b :: bs) : fetch s = (b :: bs, s.offer []) := by
  simp only [fetch, h]
  rfl

/-- Offered bytes that decode to an operation run it. -/
theorem step_offer {i : Instr} {rest : List Byte} (hd : decode bytes = .ok (i, rest)) :
    step (s.offer bytes) = exec i (s.offer rest) := by
  cases bytes with
  | nil => cases hd
  | cons b bs =>
    have hf : fetch (s.offer (b :: bs)) = (b :: bs, s.offer []) := fetch_of_port rfl
    exact step_of_decode (u := s.offer []) hf hd

/-- R87, R162, R168: the timer's select word starts a scan when the timer is enabled and a period event arrives, and
nothing else when not. -/
theorem step_of_timerImage {t : Bool} (hf : fetch s = (timerImage s.tmrEn t, u)) (hport : u.opPort = [])
    (htmr : u.tmrEn = s.tmrEn) :
    step s = if s.tmrEn = true ∧ t = true then exec .scan u else .next u := by
  have hoffer : u.offer [] = u := by rw [State.offer, ← hport]
  rw [step_of_decode hf (decode_timerImage s.tmrEn t), hoffer]
  by_cases h : s.tmrEn = true ∧ t = true
  · rw [if_pos h, if_pos (Bool.and_eq_true_iff.2 h)]
    exact if_pos (htmr.trans h.1)
  · rw [if_neg h, if_neg (mt Bool.and_eq_true_iff.1 h)]
    rfl

end

/-! ### The report (R92, R128) -/

section
variable {p : Params} {v : Slot} {q : Queue}

/-- R128: a valid slot shows its keycode, or 0x00 when it is empty. -/
theorem slotCode?_eq_shownCode (h : v = 0xFF#8 ∨ v.toNat < p.n) : slotCode? p v = some (shownCode p v) := by
  obtain ⟨c, hc⟩ := slotCode?_of_valid h
  by_cases hv : v = 0xFF#8
  · simp only [slotCode?, shownCode, emptySlot, hv, if_true]
  · simp only [slotCode?, shownCode, emptySlot, hv, if_false] at hc ⊢
    rw [hc, Option.getD_some]

/-- R128: with valid slots the report is built from the queue and the mask. -/
theorem buildReport?_of_valid (h : ∀ v ∈ q.reported, v = 0xFF#8 ∨ v.toNat < p.n) (m : Byte) :
    buildReport? p q m = some (shownReport p q m) := by
  have hcode : ∀ v ∈ q.reported, slotCode? p v = some (shownCode p v) := fun v hv => slotCode?_eq_shownCode (h v hv)
  simp only [Queue.reported, List.forall_mem_cons] at hcode
  obtain ⟨h0, h1, h2, h3, h4, h5, -⟩ := hcode
  simp only [buildReport?, h0, h1, h2, h3, h4, h5, shownReport]

/-- R92: a report that can be built shows every reported slot. -/
theorem slotCode?_isSome_of_buildReport? {m : Byte} {r : Report} (h : buildReport? p q m = some r) :
    ∀ v ∈ q.reported, (slotCode? p v).isSome = true := by
  unfold buildReport? at h
  split at h
  · simp only [Queue.reported, List.forall_mem_cons, Option.isSome_some, *]
    simp
  · cases h

end

/-- R92: without a report RPT.SEND is refused. -/
theorem sendReport_of_no_report {s : State} (h : buildReport? s.cfg s.q s.modMask = none) :
    sendReport s = .refused .slotOutOfRange := by
  rw [sendReport, h]

/-! ### The DISPATCH loop (R85, R121) -/

theorem andThen_assoc (r : Result) (f g : State → Result) :
    andThen (andThen r f) g = andThen r fun s => andThen (f s) g := by
  cases r with
  | next s => rfl
  | fault e => cases e
  | refused e => rfl

/-- R121: the loop over one list of keys and then another is the loop over both. -/
theorem dispatchKeys_append (ks ls : List KeyIndex) (s : State) :
    dispatchKeys (ks ++ ls) s = andThen (dispatchKeys ks s) (dispatchKeys ls) := by
  induction ks generalizing s with
  | nil => rfl
  | cons k ks ih =>
    have htail : dispatchKeys (ks ++ ls) = fun t => andThen (dispatchKeys ks t) (dispatchKeys ls) := funext ih
    simp only [List.cons_append, dispatchKeys, andThen_assoc, htail]

/-- R121: the loop over one key is the operation its edge selects, and then the edge is consumed. -/
theorem dispatchKeys_singleton (k : KeyIndex) (s : State) :
    dispatchKeys [k] s = andThen (dispatchEdge k (s.edgeAt k) s) fun t => .next (t.setEdge k .none) := by
  simp only [dispatchKeys, dispatchKey, andThen_assoc, andThen_next]

section
variable {k : KeyIndex} {s : State} {e : LayoutEntry} (he : s.cfg.entry? k = some e)
include he

/-- R85, R121: a press edge selects by the kind of the key. -/
theorem dispatchEdge_press :
    dispatchEdge k .press s = if e.isModifier then pressModifier k e s else pressKey k s := by
  simp only [dispatchEdge, he]

/-- R85, R121: so does a release edge. -/
theorem dispatchEdge_release :
    dispatchEdge k .release s = if e.isModifier then releaseModifier k e s else releaseKey k s := by
  simp only [dispatchEdge, he]

end

/-! ### The LED driver (R81, R83, R93, R144) -/

/-- The outputs of one LED.BIT that drives the level v (R142). -/
def bitOutputs (v : Bool) : List Output :=
  [.pin .ledClk false, .delay, .pin .ledData v, .delay, .pin .ledClk true, .delay]

/-- R93: of the lock byte only bits 2 to 0 reach a channel. -/
theorem lockChannels_congr (gs : Vector Gray 24) {l l' : Byte} (h : l &&& 0x07#8 = l' &&& 0x07#8) :
    lockChannels gs l = lockChannels gs l' := by
  have hbit (i : Nat) (hi : (0x07#8).getLsbD i = true) : l.getLsbD i = l'.getLsbD i := by
    simpa only [BitVec.getLsbD_and, hi, Bool.and_true] using congrArg (BitVec.getLsbD · i) h
  rw [lockChannels, lockChannels, hbit 0 rfl, hbit 1 rfl, hbit 2 rfl]

theorem updateLeds_of_locks_cons {s : State} {l : Byte} {ls : List Byte} (h : s.locks = l :: ls) :
    updateLeds s = { s with locks := ls, gs := lockChannels s.gs l } := by
  simp only [updateLeds, lockRead_cons h]

/-- R83: frame bit i, in order of emission, is the bit i places below bit 11 of channel 23. -/
theorem frameBitAt_eq (gs : Vector Gray 24) (i : Fin (24 * 12)) :
    frameBitAt gs i.val = frameBit gs i.rev.divNat i.rev.modNat := by
  have hc : i.rev.divNat.val = 23 - i.val / 12 := by rw [Fin.coe_divNat, Fin.val_rev]; omega
  have hb : i.rev.modNat.val = 11 - i.val % 12 := by rw [Fin.coe_modNat, Fin.val_rev]; omega
  have hget : gs.toList.getD i.rev.divNat.val 0#12 = gs[i.rev.divNat] :=
    List.getD_eq_getElem _ _ (by rw [Vector.length_toList]; exact i.rev.divNat.isLt)
  rw [frameBitAt, frameBit, ← hc, ← hb, hget]

/-- R83: the bits of a frame in order of emission. -/
theorem map_frameBit_framePositions (gs : Vector Gray 24) :
    framePositions.map (fun cb => frameBit gs cb.1 cb.2) = (List.range 288).map (frameBitAt gs) := by
  have hrev : framePositions = (List.finRange (24 * 12)).map fun i => (i.rev.divNat, i.rev.modNat) := by
    rw [← List.reverse_reverse framePositions, framePositions_reverse, List.ofFn_eq_map, ← List.map_reverse,
      List.finRange_reverse, List.map_map]
    rfl
  rw [hrev, List.map_map, ← List.map_coe_finRange_eq_range, List.map_map]
  exact List.map_congr_left fun i _ => (frameBitAt_eq gs i).symm

/-- R142, R144: the bits of a frame put out one LED.BIT each. -/
theorem foldl_shiftBit_trace (l : List (Fin 24 × Fin 12)) (s : State) :
    (l.foldl shiftBit s).trace = (l.flatMap fun cb => bitOutputs (frameBit s.gs cb.1 cb.2)).reverse ++ s.trace := by
  induction l generalizing s with
  | nil => rfl
  | cons cb l ih =>
    have hgs : (shiftBit s cb).gs = s.gs := by rw [shiftBit_eq]
    have htrace : (shiftBit s cb).trace = (bitOutputs (frameBit s.gs cb.1 cb.2)).reverse ++ s.trace := by
      rw [shiftBit_eq]
      rfl
    rw [List.foldl_cons, ih, hgs, htrace, List.flatMap_cons, List.reverse_append, List.append_assoc]

/-- R83, R144: the bits of a whole frame put out what the frame's list of outputs says. -/
theorem flatMap_bitOutputs_framePositions (gs : Vector Gray 24) :
    framePositions.flatMap (fun cb => bitOutputs (frameBit gs cb.1 cb.2)) =
      (List.range 288).flatMap (frameBitOutputs gs) := by
  have h := congrArg (List.flatMap bitOutputs) (map_frameBit_framePositions gs)
  rw [List.flatMap_map, List.flatMap_map] at h
  exact h

/-- R144: LED.FRAME puts out the latch drop, the bits of the frame and the commit. -/
theorem sendFrame_trace (s : State) : (sendFrame s).trace = (frameOutputs s.gs).reverse ++ s.trace := by
  have hlatch : pinWriteDelay .ledLatch false s =
      { s with pins := { s.pins with ledLatch := false }, trace := [.delay, .pin .ledLatch false] ++ s.trace } := by
    rw [pinWriteDelay, pinWrite_ledLatch_low]
    rfl
  rw [sendFrame, commitFrame_eq, foldl_shiftBit_trace, hlatch, flatMap_bitOutputs_framePositions, frameOutputs]
  simp only [List.reverse_append, List.append_assoc]
  rfl

end Sys2Proof.Machine

namespace Sys2Proof.Proofs

open Sys2Proof.Machine

/-- Settles O2: the parts of each image select its operation, and reading the image gives the parts back. Only the
operands of LED.BIT are numbers that have to come back from their bytes (R142). -/
theorem decodeEncodeRoundTrip : Obligations.DecodeEncodeRoundTrip := by
  intro i rest
  cases i with
  | ledBit c b =>
    have hparts : decodeImage 0 0b100 2 (BitVec.ofNat 8 c.val) (BitVec.ofNat 8 b.val) = .ok (.ledBit c b) :=
      bitOperation_ofNat c b
    exact decode_imageOf_of_ok hparts rest
  | _ => exact decode_imageOf_of_ok rfl rest

/-- Settles O3: widened to 16 bits, the word is below 512 and meets a pattern exactly if it did so at 9 bits (R77). -/
theorem comparatorWordsAllDecode : Obligations.ComparatorWordsAllDecode := fun w k rest =>
  decode_imageOf_of_ok (f := 1) (pos := 0) (decodeComparator_setWidth w k) rest

/-- Settles O4: the phase format answers so for its selects 5 to 7, whatever the other bytes are (R86). -/
theorem reservedPhaseSelectsRefused : Obligations.ReservedPhaseSelectsRefused := by
  intro w pos x y rest hlo hhi
  have hphase : decodeImage 0 w pos x y = .error .reservedPhase := decodePhase_reserved hlo hhi pos x y
  rw [decode_imageOf, hphase]
  rfl

/-- Settles O10: placing a table word offers its image, which has nothing behind it. -/
theorem stepRunsPlacedTableWord : Obligations.StepRunsPlacedTableWord := fun _ _ _ _ h =>
  step_offer (decodeTableWord_eq_some h)

/-- Settles O28: the report is built exactly if every reported slot shows a keycode (R92, R128). -/
theorem sendReportsQueueAndMask : Obligations.SendReportsQueueAndMask := by
  refine fun s => ⟨fun hvalid => sendReport_of_report (buildReport?_of_valid hvalid s.modMask), ?_⟩
  intro v hv hempty hkey
  cases hr : buildReport? s.cfg s.q s.modMask with
  | none => exact sendReport_of_no_report hr
  | some r =>
    have hshown := (slotCode?_isSome_iff s.cfg v).1 (slotCode?_isSome_of_buildReport? hr v hv)
    exact absurd hshown (not_or.2 ⟨hempty, hkey⟩)

/-- Settles O29: by the cases of the edge and of the key's kind (R85); the loop over a list splits at any place. -/
theorem dispatchSelectsByEdgeAndKind : Obligations.DispatchSelectsByEdgeAndKind := by
  refine ⟨fun s k e he => ?_, fun s ks ls => dispatchKeys_append ks ls s⟩
  rw [dispatchKeys_singleton]
  refine congrArg (andThen · _) ?_
  cases s.edgeAt k with
  | none => rfl
  | press =>
    rw [dispatchEdge_press he]
    cases hm : e.isModifier with
    | false => exact (onKeyOfKind_of_entry he hm fun _ t => pressKey k t).symm
    | true => exact (onKeyOfKind_of_entry he hm fun e t => pressModifier k e t).symm
  | release =>
    rw [dispatchEdge_release he]
    cases hm : e.isModifier with
    | false => exact (onKeyOfKind_of_entry he hm fun _ t => releaseKey k t).symm
    | true => exact (onKeyOfKind_of_entry he hm fun e t => releaseModifier k e t).symm

/-- Settles O34: LED.UPDATE takes the lock byte off the list and shows its bits 2 to 0 alone. -/
theorem lockHighBitsIgnored : Obligations.LockHighBitsIgnored := by
  intro s l l' ls h
  have hupdate (b : Byte) : exec .ledUpdate { s with locks := b :: ls } =
      .next { s with locks := ls, gs := lockChannels s.gs b } :=
    congrArg Host.Outcome.next (updateLeds_of_locks_cons rfl)
  rw [hupdate, hupdate, lockChannels_congr s.gs h]

/-- Settles O38: the outputs come bit by bit, and the frame of LED.FRAME is known (R144). -/
theorem ledFrameEmitsEveryBit : Obligations.LedFrameEmitsEveryBit := by
  intro s
  obtain ⟨trace, h⟩ := sendFrame_frame s
  refine ⟨sendFrame s, rfl, sendFrame_trace s, ?_⟩
  rw [h]

/-- Settles O1: each image of the map is read as it is written; LED.BIT is the one whose operands are numbers (R142). -/
theorem selectWordsDecode : Obligations.SelectWordsDecode :=
  ⟨⟨rfl, rfl, rfl, rfl, rfl, rfl, rfl, rfl, rfl, rfl, rfl, rfl, rfl, rfl, rfl, rfl⟩,
    fun _ => ⟨rfl, rfl, rfl, rfl, rfl, rfl, rfl, rfl, rfl, rfl⟩,
    fun c b => decodeEncodeRoundTrip (.ledBit c b) []⟩

/-- Settles O5: bytes at the port are fetched before any event, and decoded as they are. -/
theorem stepRunsDecodedOperation : Obligations.StepRunsDecodedOperation := by
  intro s b bs hport
  have hf : fetch s = (b :: bs, s.offer []) := fetch_of_port hport
  exact ⟨fun _ _ hd => step_of_decode (u := s.offer []) hf hd, fun _ hd => step_of_decode_error hf hd⟩

/-- Settles O6: the timer's select word has a period event in it (R87). -/
theorem periodEventStartsScanOrIsLost : Obligations.PeriodEventStartsScanOrIsLost := by
  intro s es hport hev
  have hf : fetch s = (timerImage s.tmrEn true, { s with events := es }) := by simp only [fetch, hport, hev]
  simpa only [and_true] using step_of_timerImage hf hport rfl

/-- Settles O7: the timer's select word has no period event in it (R87). -/
theorem quietStepChangesNothing : Obligations.QuietStepChangesNothing := by
  intro s es hport hev
  have hf : fetch s = (timerImage s.tmrEn false, { s with events := es }) := by simp only [fetch, hport, hev]
  simpa using step_of_timerImage hf hport rfl

/-- Settles O9: the timer's select word has the environment's free value in it (R87, R161). -/
theorem ungivenEventIsFree : Obligations.UngivenEventIsFree := by
  intro s hport hev
  have hf : fetch s = (timerImage s.tmrEn (Config.freeTick s.draws), { s with draws := s.draws + 1 }) := by
    simp only [fetch, hport, hev]
  exact step_of_timerImage hf hport rfl

end Sys2Proof.Proofs
end

section
/-! Proofs about the SAMPLE and FILTER phases key by key (R101 to R109), and about what one scan, and seven scans, make of
a key (R111 to R116). -/

namespace Sys2Proof.Machine

/-! ### Loops over the keys (R51) -/

/-- A key stands in the loop over the keys once, behind as many others as its index says. -/
theorem keys_eq_append {s : State} {k : KeyIndex} (hk : k.toNat < s.cfg.n) :
    ∃ before after, s.keys = before ++ k :: after ∧ before.length = k.toNat ∧ k ∉ before ∧ k ∉ after := by
  have hlen : k.toNat < s.keys.length := by simpa [State.keys] using hk
  have hget : s.keys[k.toNat] = k := by simp [State.keys]
  have hsplit : s.keys = s.keys.take k.toNat ++ k :: s.keys.drop (k.toNat + 1) := by
    conv_lhs => rw [← List.take_append_drop k.toNat s.keys, List.drop_eq_getElem_cons hlen, hget]
  have hnodup := keys_nodup s
  rw [hsplit, List.nodup_middle, List.nodup_cons, List.mem_append, not_or] at hnodup
  exact ⟨_, _, hsplit, List.length_take_of_le hlen.le, hnodup.1⟩

/-- What the rounds of the other keys keep, a loop that does not meet the key keeps. -/
theorem foldl_keeps_of_not_mem {σ α β : Type} {f : σ → α → σ} {get : σ → β} {k : α}
    (h : ∀ s j, j ≠ k → get (f s j) = get s) {l : List α} (hk : k ∉ l) (s : σ) : get (l.foldl f s) = get s := by
  induction l generalizing s with
  | nil => rfl
  | cons j l ih =>
    obtain ⟨hj, hl⟩ := not_or.1 (mt List.mem_cons.2 hk)
    exact (ih hl (f s j)).trans (h s j (Ne.symm hj))

/-- What the rounds of the other keys keep, a loop that meets the key once makes of it what the key's round does. -/
theorem foldl_append_cons_of_not_mem {σ α β : Type} {f : σ → α → σ} {get : σ → β} {k : α}
    (h : ∀ s j, j ≠ k → get (f s j) = get s) (before : List α) {after : List α} (hk : k ∉ after) (s : σ) :
    get ((before ++ k :: after).foldl f s) = get (f (before.foldl f s) k) := by
  rw [List.foldl_append, List.foldl_cons, foldl_keeps_of_not_mem h hk]

/-! ### The SAMPLE phase (R101 to R103, R192) -/

/-- The outputs of SMP.LATCH, in order (R101). -/
def latchOutputs (p : Params) : List Output :=
  [.pin .srLoad p.loadActive, .delay, .pin .srLoad (!p.loadActive), .delay]

/-- The outputs of SMP.READ, in order (R102). -/
def pulseOutputs (p : Params) : List Output :=
  [.pin .srClk p.srclkActive, .delay, .pin .srClk (!p.srclkActive), .delay]

/-- The outputs of SMP.SNAPSHOT, in order (R103). -/
def snapshotOutputs (p : Params) : List Output :=
  latchOutputs p ++ (List.replicate p.n (pulseOutputs p)).flatten

/-- Counting in the outputs of SMP.SNAPSHOT, one pulse stands for all. -/
theorem countP_snapshotOutputs (f : Output → Bool) (p : Params) :
    (snapshotOutputs p).countP f = (latchOutputs p).countP f + p.n * (pulseOutputs p).countP f := by
  simp [snapshotOutputs, List.countP_append, List.countP_flatten]

theorem pinWrites_snapshotOutputs (p : Params) : pinWrites (snapshotOutputs p) = 2 + 2 * p.n :=
  (countP_snapshotOutputs Output.isPin p).trans (congrArg (2 + ·) (Nat.mul_comm p.n 2))

theorem delays_snapshotOutputs (p : Params) : delays (snapshotOutputs p) = 2 + 2 * p.n :=
  (countP_snapshotOutputs (· == .delay) p).trans (congrArg (2 + ·) (Nat.mul_comm p.n 2))

theorem isReport_of_mem_snapshotOutputs {p : Params} {o : Output} (h : o ∈ snapshotOutputs p) :
    o.isReport = false := by
  have hpulse : ∀ o ∈ pulseOutputs p, o.isReport = false := by simp [pulseOutputs, Output.isReport]
  have hlatch : ∀ o ∈ latchOutputs p, o.isReport = false := by simp [latchOutputs, Output.isReport]
  simp only [snapshotOutputs, List.mem_append, List.mem_flatten, List.mem_replicate] at h
  rcases h with h | ⟨l, ⟨-, rfl⟩, h⟩
  · exact hlatch o h
  · exact hpulse o h

/-- R102: reads of the matrix write histories, SR_CLK and the trace, and take one bit each out of the matrix chain; no
free value is drawn while there is a bit for each. -/
theorem foldl_sampleKey_frame (ks : List KeyIndex) (s : State) :
    ∃ hist draws, (ks.length ≤ s.chain.length → draws = s.draws) ∧ ks.foldl sampleKey s =
      { s with
        hist := hist
        pins := { s.pins with srClk := if ks = [] then s.pins.srClk else !s.cfg.srclkActive }
        chain := s.chain.drop ks.length
        draws := draws
        trace := (List.replicate ks.length (pulseOutputs s.cfg)).flatten.reverse ++ s.trace } := by
  induction ks generalizing s with
  | nil => exact ⟨s.hist, s.draws, fun _ => rfl, rfl⟩
  | cons k ks ih =>
    obtain ⟨hist, draws, hdraws, h⟩ := ih (sampleKey s k)
    refine ⟨hist, draws, fun hlen => ?_, ?_⟩
    · have hchain : s.chain ≠ [] := List.ne_nil_of_length_pos (Nat.lt_of_lt_of_le (Nat.succ_pos _) hlen)
      rw [sampleKey_eq] at hdraws
      simpa [hchain] using hdraws (by simpa using Nat.sub_le_sub_right hlen 1)
    · rw [List.foldl_cons, h, sampleKey_eq]
      simp [List.replicate_succ, pulseOutputs]

/-- R103: all that the SAMPLE phase does but for the histories; the snapshot is left in the chain if it is too long, and
free values are drawn if it is too short. -/
theorem snapshotMatrix_frame (s : State) :
    ∃ hist draws, (s.cfg.n ≤ (s.snapshots.headD []).length → draws = s.draws) ∧ snapshotMatrix s =
      { s with
        hist := hist
        pins := { s.pins with srLoad := !s.cfg.loadActive, srClk := !s.cfg.srclkActive }
        chain := (s.snapshots.headD []).drop s.cfg.n
        snapshots := s.snapshots.tail
        draws := draws
        trace := (snapshotOutputs s.cfg).reverse ++ s.trace } := by
  obtain ⟨hist, draws, hdraws, h⟩ := foldl_sampleKey_frame s.keys (latchMatrix s)
  have hlen : s.keys.length = s.cfg.n := by simp [State.keys]
  have hne : s.keys ≠ [] := List.ne_nil_of_length_pos (hlen ▸ (n_bounds s.cfg).1)
  refine ⟨hist, draws, ?_, ?_⟩
  · simpa [latchMatrix_eq, hlen] using hdraws
  · rw [snapshotMatrix, h, latchMatrix_eq, hlen]
    simp [hne, snapshotOutputs, latchOutputs]

/-- R103: reads of keys that exist complete one after another. -/
theorem foldl_exec_smpRead {ks : List KeyIndex} {s : State} (hks : ∀ k ∈ ks, k.toNat < s.cfg.n) :
    ks.foldl (fun r k => andThen r (exec (.smpRead k))) (.next s) = .next (ks.foldl sampleKey s) := by
  induction ks generalizing s with
  | nil => rfl
  | cons k ks ih =>
    obtain ⟨hk, hks⟩ := List.forall_mem_cons.1 hks
    rw [List.foldl_cons, List.foldl_cons, andThen_next, exec_smpRead_of_lt hk]
    exact ih (by rwa [sampleKey_cfg])

/-- R102: a read of the matrix for one key leaves the histories of the others alone. -/
theorem histAt_sampleKey_ne (s : State) {j k : KeyIndex} (h : j ≠ k) : (sampleKey s j).histAt k = s.histAt k := by
  rw [sampleKey_eq]
  exact s.histAt_setHist_ne j k _ h

/-- R102: a read of the matrix brings the first bit of the chain into the key's history. -/
theorem histAt_sampleKey_same {s : State} {k : KeyIndex} (hk : k.toNat < s.hist.length) :
    (sampleKey s k).histAt k =
      s.histAt k ||| sampleByte (s.chain.headD (Config.freeBit s.draws) ^^ s.cfg.senseInvert) := by
  rw [sampleKey_eq]
  exact s.histAt_setHist_same k _ hk

/-- R51, R102, R103: the SAMPLE phase brings the k-th bit of the snapshot into the history of key k. -/
theorem histAt_snapshotMatrix {s : State} {m : List Bool} {ms : List (List Bool)} {k : KeyIndex} (hs : s.Sized)
    (hm : s.snapshots = m :: ms) (hlen : m.length = s.cfg.n) (hk : k.toNat < s.cfg.n) :
    (snapshotMatrix s).histAt k = s.comparedHist m k := by
  obtain ⟨before, after, hkeys, hpos, hbefore, hafter⟩ := keys_eq_append hk
  have hother : ∀ (u : State) (j : KeyIndex), j ≠ k → (sampleKey u j).histAt k = u.histAt k :=
    fun u _ hj => histAt_sampleKey_ne u hj
  have hhist : (before.foldl sampleKey (latchMatrix s)).histAt k = s.histAt k := by
    rw [foldl_keeps_of_not_mem (get := (State.histAt · k)) hother hbefore, latchMatrix_eq]
    rfl
  have hsized : (before.foldl sampleKey (latchMatrix s)).Sized :=
    List.foldlRecOn _ _ (sized_kept.outside (latchMatrix_registers s) hs) fun _ hu j _ => sized_kept.sampleKey j hu
  have hcfg : (before.foldl sampleKey (latchMatrix s)).cfg = s.cfg := by
    rw [foldl_keeps sampleKey_cfg, latchMatrix_cfg]
  have hchain : (before.foldl sampleKey (latchMatrix s)).chain = m.drop k.toNat := by
    obtain ⟨hist, draws, -, hu⟩ := foldl_sampleKey_frame before (latchMatrix s)
    rw [hu, hpos, latchMatrix_eq, hm]
    rfl
  have hbit : ∀ d, (m.drop k.toNat).headD d = m.getD k.toNat false := by
    intro d
    have hk' : k.toNat < m.length := hlen ▸ hk
    rw [List.drop_eq_getElem_cons hk', List.headD_cons, List.getD_eq_getElem _ _ hk']
  rw [snapshotMatrix, hkeys, foldl_append_cons_of_not_mem (get := (State.histAt · k)) hother before hafter,
    histAt_sampleKey_same (by rwa [hsized.hist_length, hcfg]), hhist, hchain, hbit, hcfg, State.comparedHist]

/-! ### The FILTER phase (R104 to R109) -/

/-- R108: a shift to the left moves every bit but the last up by one. -/
theorem getLsbD_shiftLeft_one_succ (h : Byte) {j : Nat} (hj : j < 7) : (h <<< 1).getLsbD (j + 1) = h.getLsbD j := by
  simp [-BitVec.getLsbD_eq_getElem, (by omega : j + 1 < 8)]

theorem comparatorWord_inj {p p' : Bool} {h h' : Byte} :
    comparatorWord p h = comparatorWord p' h' ↔ p = p' ∧ h = h' := by
  constructor
  · intro hw
    have hp : p = p' := by
      have hbit := congrArg (BitVec.getLsbD · 8) hw
      simp only [comparatorWord, BitVec.getLsbD_append] at hbit
      simpa using hbit
    subst hp
    exact ⟨rfl, (BitVec.append_right_inj _).1 hw⟩
  · rintro ⟨rfl, rfl⟩
    rfl

/-- R105 to R107: the comparator gives the edge that the rules name. -/
theorem selectEdge_comparatorWord (p : Bool) (h : Byte) : selectEdge (comparatorWord p h) = edgeOf h p := by
  simp only [selectEdge, comparatorWord_inj, edgeOf, patPress, patRelease, and_comm]

/-- All that one round of the FILTER phase does (R104 to R108). -/
theorem evalKey_eq (s : State) (k : KeyIndex) :
    evalKey s k =
      { s with
        hist := s.hist.set k.toNat (s.histAt k <<< 1)
        edge := s.edge.set k.toNat (edgeOf (s.histAt k) (s.pressedAt k)) } := by
  rw [← selectEdge_comparatorWord]
  rfl

/-- R109: the FILTER phase writes histories and edges alone. -/
theorem evalKeys_frame (s : State) : evalKeys s = { s with hist := (evalKeys s).hist, edge := (evalKeys s).edge } :=
  List.foldlRecOn (motive := fun u : State => u = { s with hist := u.hist, edge := u.edge }) s.keys evalKey rfl
    fun u hu k _ => by rw [evalKey_eq, hu]

/-- What the FILTER phase writes for key k: its history and its edge (R104, R108). -/
def State.filterAt (s : State) (k : KeyIndex) : Byte × Edge := (s.histAt k, s.edgeAt k)

theorem filterAt_eq_iff {s : State} {k : KeyIndex} {h : Byte} {e : Edge} :
    s.filterAt k = (h, e) ↔ s.histAt k = h ∧ s.edgeAt k = e :=
  Prod.mk_inj

theorem filterAt_evalKey_ne (s : State) {j k : KeyIndex} (h : j ≠ k) : (evalKey s j).filterAt k = s.filterAt k :=
  Prod.ext (State.histAt_setHist_ne _ j k _ h) (s.edgeAt_setEdge_ne j k _ h)

/-- R104 to R108: one round of the FILTER phase ages the key's history and gives it its edge. -/
theorem filterAt_evalKey_same {s : State} {k : KeyIndex} (hs : s.Sized) (hk : k.toNat < s.cfg.n) :
    (evalKey s k).filterAt k = (s.histAt k <<< 1, edgeOf (s.histAt k) (s.pressedAt k)) := by
  rw [evalKey_eq]
  exact Prod.ext (s.histAt_setHist_same k _ (hs.hist_length ▸ hk)) (s.edgeAt_setEdge_same k _ (hs.edge_length ▸ hk))

/-- R109: the FILTER phase ages every history and gives every key its edge. -/
theorem filterAt_evalKeys {s : State} {k : KeyIndex} (hs : s.Sized) (hk : k.toNat < s.cfg.n) :
    (evalKeys s).filterAt k = (s.histAt k <<< 1, edgeOf (s.histAt k) (s.pressedAt k)) := by
  obtain ⟨before, after, hkeys, -, hbefore, hafter⟩ := keys_eq_append hk
  have hother : ∀ (u : State) (j : KeyIndex), j ≠ k → (evalKey u j).filterAt k = u.filterAt k :=
    fun u _ hj => filterAt_evalKey_ne u hj
  have hsized : (before.foldl evalKey s).Sized :=
    List.foldlRecOn _ _ hs fun _ hu j _ => sized_kept.evalKey j hu
  have hcfg : (before.foldl evalKey s).cfg = s.cfg := foldl_keeps evalKey_cfg before s
  have hpressed : (before.foldl evalKey s).pressedAt k = s.pressedAt k :=
    foldl_keeps (f := evalKey) (get := (State.pressedAt · k)) (fun _ _ => rfl) before s
  have hhist : (before.foldl evalKey s).histAt k = s.histAt k :=
    congrArg Prod.fst (foldl_keeps_of_not_mem (get := (State.filterAt · k)) hother hbefore s)
  rw [evalKeys, hkeys, foldl_append_cons_of_not_mem (get := (State.filterAt · k)) hother before hafter,
    filterAt_evalKey_same hsized (hcfg ▸ hk), hpressed, hhist]

/-! ### The interleaved order (R109) -/

/-- R109: a key event of another key and the comparison of this one do not meet. -/
theorem keyEvent_evalKey (s : State) {j k : KeyIndex} (h : j ≠ k) (e : LayoutEntry) (down : Bool) :
    (evalKey s j).keyEvent k e down = evalKey (s.keyEvent k e down) j := by
  have hp : (s.keyEvent k e down).pressedAt j = s.pressedAt j := s.pressedAt_setPressed_ne k j down h.symm
  rw [evalKey_eq, evalKey_eq, hp]
  rfl

/-- R128: the report reads no history and no edge. -/
theorem sendReport_evalKey (s : State) (j : KeyIndex) :
    sendReport (evalKey s j) = andThen (sendReport s) fun t => .next (evalKey t j) := by
  cases h : buildReport? s.cfg s.q s.modMask with
  | none => rw [sendReport_of_no_report h, sendReport_of_no_report (s := evalKey s j) h, andThen_refused]
  | some r =>
    rw [sendReport_of_report h, sendReport_of_report (s := evalKey s j) h, andThen_next]
    rfl

theorem dispatchEdge_evalKey (s : State) {j k : KeyIndex} (h : j ≠ k) (ed : Edge) :
    dispatchEdge k ed (evalKey s j) = andThen (dispatchEdge k ed s) fun t => .next (evalKey t j) := by
  cases he : s.cfg.entry? k with
  | none =>
    have he' : (evalKey s j).cfg.entry? k = none := he
    cases ed with
    | none => rfl
    | press => simp only [dispatchEdge, he, he', andThen_refused]
    | release => simp only [dispatchEdge, he, he', andThen_refused]
  | some e =>
    have hevent (down : Bool) : dispatchEdge k (if down then .press else .release) (evalKey s j) =
        andThen (dispatchEdge k (if down then .press else .release) s) fun t => .next (evalKey t j) := by
      rw [dispatchEdge_of_entry he, dispatchEdge_of_entry (s := evalKey s j) he, keyEvent_evalKey s h,
        sendReport_evalKey]
    cases ed with
    | none => rfl
    | press => exact hevent true
    | release => exact hevent false

/-- R109: the dispatch of a key and the comparison of another may come in either order. -/
theorem dispatchKey_evalKey (s : State) {j k : KeyIndex} (h : j ≠ k) :
    dispatchKey k (evalKey s j) = andThen (dispatchKey k s) fun t => .next (evalKey t j) := by
  have hedge : (evalKey s j).edgeAt k = s.edgeAt k := s.edgeAt_setEdge_ne j k _ h
  have hconsume (t : State) : (evalKey t j).setEdge k .none = evalKey (t.setEdge k .none) j := by
    have hne : j.toNat ≠ k.toNat := fun e => h (BitVec.eq_of_toNat_eq e)
    simp [evalKey_eq, State.setEdge, State.histAt, State.pressedAt, List.set_comm _ _ hne]
  simp only [dispatchKey, hedge, dispatchEdge_evalKey s h, andThen_assoc, andThen_next, hconsume]

theorem andThen_next_self (r : Result) : andThen r (fun t => .next t) = r := by
  cases r with
  | next t => rfl
  | fault e => cases e
  | refused e => rfl

/-- R109: the dispatch of a key may come before all the comparisons of others. -/
theorem dispatchKey_foldl_evalKey {k : KeyIndex} {ks : List KeyIndex} (hk : k ∉ ks) (s : State) :
    dispatchKey k (ks.foldl evalKey s) = andThen (dispatchKey k s) fun t => .next (ks.foldl evalKey t) := by
  induction ks generalizing s with
  | nil => exact (andThen_next_self _).symm
  | cons j ks ih =>
    obtain ⟨hj, hks⟩ := not_or.1 (mt List.mem_cons.2 hk)
    simp only [List.foldl_cons, ih hks, dispatchKey_evalKey s (Ne.symm hj), andThen_assoc, andThen_next]

/-- R109: over keys that differ, comparing all first and dispatching all afterwards is the interleaved order. -/
theorem dispatchKeys_foldl_evalKey {ks : List KeyIndex} (hks : ks.Nodup) (s : State) :
    dispatchKeys ks (ks.foldl evalKey s) = interleavedKeys ks s := by
  induction ks generalizing s with
  | nil => rfl
  | cons k ks ih =>
    obtain ⟨hk, hks⟩ := List.nodup_cons.1 hks
    simp only [List.foldl_cons, dispatchKeys, dispatchKey_foldl_evalKey hk, andThen_assoc, andThen_next, ih hks,
      interleavedKeys]

/-! ### What a scan makes of one key (R100, R116) -/

/-- R166: the phases 1 and 2 write no flag and nothing of the LED driver. -/
theorem sampleAndFilter_leaves (s : State) :
    (sampleAndFilter s).pressed = s.pressed ∧ (sampleAndFilter s).gs = s.gs ∧
      (sampleAndFilter s).ledSr = s.ledSr := by
  obtain ⟨hist, draws, -, h⟩ := snapshotMatrix_frame (enterHandler s)
  rw [sampleAndFilter, evalKeys_frame, h]
  exact ⟨rfl, rfl, rfl⟩

/-- `pressed[k]` as it stands when the pending edge of key k has been dispatched (R121). -/
def State.settledAt (s : State) (k : KeyIndex) : Bool :=
  match s.edgeAt k with
  | .none => s.pressedAt k
  | .press => true
  | .release => false

/-- R121 to R126: a round of the DISPATCH loop takes an edge away and puts its effect on the flag in its place. -/
theorem settledAt_dispatchKey {s t : State} {j : KeyIndex} (h : dispatchKey j s = .next t) (hs : s.Sized)
    (k : KeyIndex) : t.settledAt k = s.settledAt k := by
  have hedge := dispatchKey_edgeAt h k
  rcases dispatchKey_eq_next h with ⟨hnone, rfl⟩ | ⟨e, down, he, hdown, ht⟩
  · have hsame : (s.setEdge j .none).edgeAt k = s.edgeAt k := by
      rw [hedge]
      split
      · next hjk => rw [← hjk, hnone]
      · rfl
    simp only [State.settledAt, hsame, State.pressedAt_setEdge]
  · have hpressed : t.pressedAt k = if k = j then down else s.pressedAt k := by
      rw [← pressedAt_keyEvent e down (hs.pressed_length ▸ lt_of_entry? he)]
      exact (read_eq_of_registers (·.pressedAt k) (fun _ => rfl) ht :)
    by_cases hjk : j = k
    · subst hjk
      simp only [State.settledAt, hedge, hpressed, hdown, if_true]
      cases down <;> rfl
    · simp only [State.settledAt, hedge, hpressed, hjk, Ne.symm hjk, if_false]

/-- R121: the DISPATCH phase settles the flag of every key. -/
theorem pressedAt_dispatchPhase {s t : State} {k : KeyIndex} (h : dispatchPhase s = .next t) (hs : s.Sized)
    (hk : k.toNat < s.cfg.n) : t.pressedAt k = s.settledAt k := by
  have hsettled : t.Sized ∧ t.settledAt k = s.settledAt k :=
    dispatchKeys_keeps (P := fun u => u.Sized ∧ u.settledAt k = s.settledAt k)
      (fun hd hu => ⟨sized_kept.dispatchKey hd hu.1, (settledAt_dispatchKey hd hu.1 k).trans hu.2⟩) h ⟨hs, rfl⟩
  have hnone : t.edgeAt k = .none := dispatchKeys_edgeAt h (.inl (mem_keys.2 hk))
  rw [← hsettled.2, State.settledAt, hnone]

/-- R116: `pressed[k]` after a scan that compares the history `h`, when it was `p` before. -/
def flagAfter (h : Byte) (p : Bool) : Bool :=
  if p = false then decide (h = 0x7F#8) else decide (h ≠ 0x80#8)

/-- R105, R106, R116: the edge that the rules name settles the flag so. -/
theorem settledAt_of_edgeOf {s : State} {k : KeyIndex} {h : Byte} (hedge : s.edgeAt k = edgeOf h (s.pressedAt k)) :
    s.settledAt k = flagAfter h (s.pressedAt k) := by
  rw [State.settledAt, hedge]
  cases s.pressedAt k with
  | false => by_cases hh : h = 0x7F#8 <;> simp [edgeOf, flagAfter, hh]
  | true => by_cases hh : h = 0x80#8 <;> simp [edgeOf, flagAfter, hh]

section
variable {s t : State} {m : List Bool} {ms : List (List Bool)} {k : KeyIndex}

/-- R166: a scan that completes ran its four phases. -/
theorem runScan_eq_next (h : runScan s = .next t) :
    ∃ u, dispatchPhase (sampleAndFilter s) = .next u ∧ t = ledAndLeave u := by
  obtain ⟨u, hu, ht⟩ := andThen_eq_next h
  exact ⟨u, hu, (Host.Outcome.next.inj ht).symm⟩

/-- R102, R109: the phases 1 and 2 age every compared history and give every key the edge of its compared history. -/
theorem filterAt_sampleAndFilter (hs : s.Sized) (hm : s.snapshots = m :: ms) (hlen : m.length = s.cfg.n)
    (hk : k.toNat < s.cfg.n) :
    (sampleAndFilter s).filterAt k = (s.comparedHist m k <<< 1, edgeOf (s.comparedHist m k) (s.pressedAt k)) := by
  have hsample : ((snapshotMatrix (enterHandler s)).setPhase .filter).histAt k = s.comparedHist m k :=
    histAt_snapshotMatrix (sized_kept.enterHandler hs) hm hlen hk
  have hpressed : ((snapshotMatrix (enterHandler s)).setPhase .filter).pressedAt k = s.pressedAt k := by
    obtain ⟨hist, draws, -, h⟩ := snapshotMatrix_frame (enterHandler s)
    rw [h]
    rfl
  have hsized := sized_kept.phase _ .filter (sized_kept.snapshotMatrix (sized_kept.enterHandler hs))
  rw [sampleAndFilter, filterAt_evalKeys hsized (by simpa using hk), hsample, hpressed]

/-- R100, R116: what a scan makes of the history and the flag of each key. -/
theorem runScan_key (h : runScan s = .next t) (hs : s.Sized) (hm : s.snapshots = m :: ms)
    (hlen : m.length = s.cfg.n) (hk : k.toNat < s.cfg.n) :
    t.histAt k = s.comparedHist m k <<< 1 ∧
    t.pressedAt k = flagAfter (s.comparedHist m k) (s.pressedAt k) := by
  obtain ⟨u, hu, rfl⟩ := runScan_eq_next h
  obtain ⟨trace, hled⟩ := ledAndLeave_frame u
  obtain ⟨haged, hedge⟩ := filterAt_eq_iff.1 (filterAt_sampleAndFilter hs hm hlen hk)
  have hpressed : (sampleAndFilter s).pressedAt k = s.pressedAt k := by
    rw [State.pressedAt, (sampleAndFilter_leaves s).1]
    rfl
  have hflag : u.pressedAt k = flagAfter (s.comparedHist m k) (s.pressedAt k) := by
    rw [← hpressed] at hedge ⊢
    rw [pressedAt_dispatchPhase hu (sized_kept.sampleAndFilter hs) (sampleAndFilter_cfg s ▸ hk),
      settledAt_of_edgeOf hedge]
  have hhist : u.histAt k = s.comparedHist m k <<< 1 := by
    rw [State.histAt, dispatchPhase_hist hu, ← State.histAt, haged]
  rw [hled]
  exact ⟨hhist, hflag⟩

/-- R121: the DISPATCH phase reads no lock byte and writes nothing of the LED driver. -/
theorem dispatchPhase_leaves (h : dispatchPhase s = .next t) :
    t.locks = s.locks ∧ t.gs = s.gs ∧ t.ledSr = s.ledSr := by
  have hframe := dispatchKeys_frame h
  rw [hframe]
  exact ⟨rfl, rfl, rfl⟩

/-- R141, R145: a scan shows its lock byte on the LEDs. -/
theorem runScan_leds {l : Byte} {ls : List Byte} (h : runScan s = .next t) (hl : s.locks = l :: ls) :
    t.gs = lockChannels s.gs l ∧ t.ledOut = shiftFrame (lockChannels s.gs l) s.ledSr := by
  obtain ⟨u, hu, rfl⟩ := runScan_eq_next h
  obtain ⟨trace, hled⟩ := ledAndLeave_frame u
  obtain ⟨hlocks, hgs, hsr⟩ := dispatchPhase_leaves hu
  obtain ⟨-, hgs', hsr'⟩ := sampleAndFilter_leaves s
  rw [hled]
  simp only [hlocks, sampleAndFilter_locks, hl, hgs, hgs', hsr, hsr', List.headD_cons, and_self]

end

/-! ### Seven scans (R112, R113) -/

/-- R38, R78: an orderly queue holds key indices and `EMPTY` alone. -/
theorem slotsValid_of_queueOk {s : State} (hs : s.QueueOk) : s.SlotsValid := by
  obtain ⟨live, -, -, hslots, hlive⟩ := hs
  intro v hv
  rw [hslots, List.mem_append] at hv
  rcases hv with hv | hv
  · obtain ⟨e, he, -⟩ := (keyOfKind_iff _ _ _).1 (hlive v hv).1
    exact .inr (lt_of_entry? he)
  · exact .inl (List.eq_of_mem_replicate hv)

/-- A stored history whose newest samples are i times `b`, after one that was not (R76, R100). -/
structure RunOf (b : Bool) (i : Nat) (h : Byte) : Prop where
  aged : h.getLsbD 0 = false
  newest : ∀ j < i, h.getLsbD (j + 1) = b
  before : h.getLsbD (i + 1) = !b

/-- The pattern that confirms the level `b` (R105, R106). -/
def confirmPattern (b : Bool) : Byte := if b then 0x7F#8 else 0x80#8

/-- R88: seven samples of the level, after one that was not. -/
theorem getLsbD_confirmPattern (b : Bool) {j : Nat} (hj : j < 8) :
    (confirmPattern b).getLsbD j = if j < 7 then b else !b := by
  cases b <;> decide +revert

section
variable {b : Bool} {i : Nat} {h : Byte} (hr : RunOf b i h)
include hr

/-- R89 (a): the new sample stands at bit 0 of the compared history. -/
theorem RunOf.getLsbD_compared_zero : (h ||| sampleByte b).getLsbD 0 = b := by
  have := hr.aged
  cases b <;> simp_all [sampleByte]

omit hr in
/-- R89 (a): the older samples stand where they stood. -/
theorem getLsbD_compared_succ (h : Byte) (b : Bool) (j : Nat) :
    (h ||| sampleByte b).getLsbD (j + 1) = h.getLsbD (j + 1) := by
  cases b <;> simp [sampleByte]

/-- R112, R113: the compared history is the pattern in the seventh scan, and not before. -/
theorem RunOf.compared_eq_confirmPattern_iff (hi : i ≤ 6) : h ||| sampleByte b = confirmPattern b ↔ i = 6 := by
  constructor
  · intro heq
    by_contra hne
    have hbit := congrArg (BitVec.getLsbD · (i + 1)) heq
    simp only [getLsbD_compared_succ, hr.before] at hbit
    rw [getLsbD_confirmPattern b (by omega), if_pos (by omega)] at hbit
    simp at hbit
  · rintro rfl
    refine BitVec.eq_of_getLsbD_eq fun j hj => ?_
    rw [getLsbD_confirmPattern b hj]
    cases j with
    | zero => exact hr.getLsbD_compared_zero
    | succ j =>
      rw [getLsbD_compared_succ]
      split
      · exact hr.newest j (by omega)
      · obtain rfl : j = 6 := by omega
        exact hr.before

/-- R112, R113: the seventh scan confirms the level, and no scan before it does. -/
theorem RunOf.flagAfter_compared (hi : i ≤ 6) :
    flagAfter (h ||| sampleByte b) (!b) = if i = 6 then b else !b := by
  have hiff := hr.compared_eq_confirmPattern_iff hi
  simp only [flagAfter, ← hiff]
  cases b <;> simp [confirmPattern]

/-- R100, R108: one more sample makes the run longer by one. -/
theorem RunOf.succ (hi : i ≤ 5) : RunOf b (i + 1) ((h ||| sampleByte b) <<< 1) := by
  refine ⟨by simp, fun j hj => ?_, ?_⟩
  · rw [getLsbD_shiftLeft_one_succ _ (by omega)]
    cases j with
    | zero => exact hr.getLsbD_compared_zero
    | succ j => rw [getLsbD_compared_succ, hr.newest j (by omega)]
  · rw [getLsbD_shiftLeft_one_succ _ (by omega), getLsbD_compared_succ, hr.before]

end

/-- Key k is not yet confirmed at the level `b`, has read `b` in the last i scans and no more, and reads `b` in the n
scans to come (R112, R113). -/
structure State.Awaits (s : State) (b : Bool) (k : KeyIndex) (i n : Nat) : Prop where
  inv : s.Inv
  key : k.toNat < s.cfg.n
  unconfirmed : s.pressedAt k = !b
  run : RunOf b i (s.histAt k)
  events : ∃ es, s.events = List.replicate n .tick ++ es
  scans : s.snapshots.length = n
  samples : ∀ m ∈ s.snapshots, m.length = s.cfg.n ∧ (m.getD k.toNat false ^^ s.cfg.senseInvert) = b

theorem exec_scan (s : State) : exec .scan s = runScan s := rfl

/-- R87, R162, R166: between scans a period event runs one whole scan to its end. -/
theorem step_of_tick {s : State} {es : List Event} (hs : s.Inv) (hes : s.events = .tick :: es) :
    ∃ t, step s = .next t ∧ runScan { s with events := es } = .next t ∧ t.Inv ∧ t.cfg = s.cfg ∧
      t.snapshots = s.snapshots.tail ∧ t.events = es := by
  have hu : ({ s with events := es } : State).Inv := { hs with }
  have hstep := Proofs.periodEventStartsScanOrIsLost s es hs.portEmpty hes
  have hend := Proofs.scanRunsToItsEnd { s with events := es } (slotsValid_of_queueOk hu.queue)
  rw [if_pos hs.timer, exec_scan] at hstep
  simp only [exec_scan] at hend
  obtain ⟨t, ht, -, -, -, -, hsnapshots, -, hcfg, -, hevents, -⟩ := hend
  exact ⟨t, hstep.trans ht, ht, inv_runScan ht hu, hcfg, hsnapshots, hevents⟩

/-- R112, R113: the next scan confirms the level if it is the seventh, and makes the run longer if not. -/
theorem State.Awaits.step {s : State} {b : Bool} {k : KeyIndex} {i n : Nat} (hs : s.Awaits b k i (n + 1))
    (hi : i ≤ 6) : ∃ t, step s = .next t ∧ if i = 6 then t.pressedAt k = b else t.Awaits b k (i + 1) n := by
  obtain ⟨hinv, hk, hflag, hrun, ⟨es, hes⟩, hlen, hsamples⟩ := hs
  obtain ⟨m, ms, hm⟩ := List.exists_cons_of_ne_nil (List.ne_nil_of_length_eq_add_one hlen)
  obtain ⟨hmlen, hmk⟩ := hsamples m (hm ▸ List.mem_cons_self)
  obtain ⟨t, hstep, hscan, ht, hcfg, hsnapshots, hevents⟩ := step_of_tick hinv hes
  obtain ⟨hhist, hpressed⟩ : t.histAt k = s.comparedHist m k <<< 1 ∧
      t.pressedAt k = flagAfter (s.comparedHist m k) (s.pressedAt k) :=
    runScan_key (s := { s with events := List.replicate n .tick ++ es }) hscan hinv.sized hm hmlen hk
  have hcompared : s.comparedHist m k = s.histAt k ||| sampleByte b := by rw [State.comparedHist, hmk]
  rw [hcompared, hflag, hrun.flagAfter_compared hi] at hpressed
  rw [hcompared] at hhist
  refine ⟨t, hstep, ?_⟩
  split
  · next h => rw [hpressed, if_pos h]
  · next h =>
    exact
      { inv := ht
        key := hcfg ▸ hk
        unconfirmed := by rw [hpressed, if_neg h]
        run := hhist ▸ hrun.succ (by omega)
        events := ⟨es, hevents⟩
        scans := by rw [hsnapshots, List.length_tail, hlen, Nat.add_sub_cancel]
        samples := by
          rw [hcfg]
          exact fun m' hm' => hsamples m' (List.mem_of_mem_tail (hsnapshots ▸ hm')) }

/-- One step after a run is a longer run. -/
theorem run_succ {M : Host.Core} {n : Nat} {s t u : M.State} (h : M.run n s = .next t) (hstep : M.step t = .next u) :
    M.run (n + 1) s = .next u := by
  induction n generalizing s with
  | zero =>
    cases h
    simp only [Host.Core.run, hstep]
  | succ n ih =>
    rw [Host.Core.run] at h ⊢
    split at h
    · next s' hs' => exact ih h
    · cases h
    · cases h

/-- R112, R113: the scans before the seventh leave the level unconfirmed. -/
theorem State.Awaits.run_of_le {s : State} {b : Bool} {k : KeyIndex} {i n : Nat} (hs : s.Awaits b k 0 (i + n))
    (hi : i ≤ 6) : ∃ t, Host.Core.run core i s = .next t ∧ t.Awaits b k i n := by
  induction i generalizing n with
  | zero => exact ⟨s, rfl, by simpa using hs⟩
  | succ i ih =>
    obtain ⟨t, ht, hwait⟩ := ih (n := n + 1) (Nat.add_right_comm i 1 n ▸ hs) (by omega)
    obtain ⟨u, hu, hnext⟩ := hwait.step (by omega)
    rw [if_neg (by omega)] at hnext
    exact ⟨u, run_succ ht hu, hnext⟩

/-- R112, R113: seven scans that read a level confirm it in the seventh, and not before. -/
theorem State.Awaits.confirmed_in_seventh {s : State} {b : Bool} {k : KeyIndex} (hs : s.Awaits b k 0 7) :
    (∃ t : State, Host.Core.run core 6 s = .next t ∧ t.pressedAt k = !b) ∧
    (∃ t : State, Host.Core.run core 7 s = .next t ∧ t.pressedAt k = b) := by
  obtain ⟨t, ht, hwait⟩ := hs.run_of_le (i := 6) (n := 1) le_rfl
  obtain ⟨u, hu, hpressed⟩ := hwait.step le_rfl
  exact ⟨⟨t, ht, hwait.unconfirmed⟩, ⟨u, run_succ ht hu, hpressed⟩⟩

/-- R37: the newest bit of every history is clear between scans. -/
theorem State.Inv.histAt_low {s : State} (hs : s.Inv) {k : KeyIndex} (hk : k.toNat < s.cfg.n) :
    (s.histAt k).getLsbD 0 = false := by
  rw [State.histAt, List.getD_eq_getElem _ _ (hs.sized.hist_length ▸ hk)]
  exact hs.lowBit _ (List.getElem_mem _)

/-- R112, R113: the hypotheses of seven scans that read a level, from a key whose last sample was the other one. -/
theorem awaits_of_last_sample {s : State} {b : Bool} {k : KeyIndex} {ms : List (List Bool)} {es : List Event}
    (hs : s.Inv) (hk : k.toNat < s.cfg.n) (hflag : s.pressedAt k = !b) (hlast : (s.histAt k).getLsbD 1 = !b)
    (hevents : s.events = List.replicate 7 .tick ++ es) (hlen : ms.length = 7) (hms : s.snapshots = ms)
    (hsamples : ∀ m ∈ ms, m.length = s.cfg.n ∧ (m.getD k.toNat false ^^ s.cfg.senseInvert) = b) :
    s.Awaits b k 0 7 where
  inv := hs
  key := hk
  unconfirmed := hflag
  run := ⟨hs.histAt_low hk, fun _ hj => absurd hj (Nat.not_lt_zero _), hlast⟩
  events := ⟨es, hevents⟩
  scans := hms ▸ hlen
  samples := hms ▸ hsamples

end Sys2Proof.Machine

namespace Sys2Proof.Proofs

open Sys2Proof.Machine

/-- Settles O13: two writes of SR_LOAD load the chain, whose first bit the sense line then shows (R62, R101). -/
theorem latchPulsesLoadLine : Obligations.LatchPulsesLoadLine := by
  refine fun s => ⟨latchMatrix s, rfl, by rw [latchMatrix_eq], fun b m ms hm => ?_⟩
  rw [senseRead_eq, latchMatrix_eq, hm]
  rfl

/-- Settles O16: a read of each key completes, so the loop of reads is the SAMPLE phase, whose frame is known (R103). -/
theorem snapshotIsLatchThenReads : Obligations.SnapshotIsLatchThenReads := by
  intro s
  obtain ⟨hist, draws, -, hframe⟩ := snapshotMatrix_frame s
  refine ⟨(foldl_exec_smpRead (ks := s.keys) (s := latchMatrix s) ?_).symm, snapshotMatrix s,
    (snapshotOutputs s.cfg).reverse, rfl, ?_, ?_, ?_, ?_⟩
  · intro k hk
    rw [latchMatrix_cfg]
    exact mem_keys.1 hk
  · rw [hframe]
  · exact fun o ho => isReport_of_mem_snapshotOutputs (List.mem_reverse.1 ho)
  · exact List.countP_reverse.trans (pinWrites_snapshotOutputs s.cfg)
  · exact List.countP_reverse.trans (delays_snapshotOutputs s.cfg)

/-- Settles O17: the chain holds the bits of the later keys when key k is read, and none when all are (R192). -/
theorem snapshotSamplesEveryKey : Obligations.SnapshotSamplesEveryKey := by
  intro s m ms hs hm hlen
  obtain ⟨hist, draws, hdraws, hframe⟩ := snapshotMatrix_frame s
  refine ⟨snapshotMatrix s, snapshotOutputs s.cfg, rfl, fun k hk => histAt_snapshotMatrix hs hm hlen hk,
    sized_kept.snapshotMatrix hs, ?_, ?_, ?_, rfl, pinWrites_snapshotOutputs s.cfg, delays_snapshotOutputs s.cfg⟩
  · rw [hframe, hm]
    exact List.drop_eq_nil_of_le hlen.le
  · rw [hframe]
    exact hdraws (by rw [hm]; exact hlen.ge)
  · rw [hframe]

/-- Settles O18: each outcome writes the edge of its key (R105 to R107). -/
theorem filterOutcomesWriteOneEdge : Obligations.FilterOutcomesWriteOneEdge := fun _ k hk =>
  ⟨onKey_of_lt hk fun t => .next (t.setEdge k .press), onKey_of_lt hk fun t => .next (t.setEdge k .release),
    onKey_of_lt hk fun t => .next (t.setEdge k .none)⟩

/-- Settles O19: a shift to the left by one (R89 (b)). -/
theorem shiftAgesHistory : Obligations.ShiftAgesHistory := by
  intro s k hk
  exact ⟨s.histAt k <<< 1, by simp, fun j hj => getLsbD_shiftLeft_one_succ _ hj,
    onKey_of_lt hk fun t => .next (shiftKey t k)⟩

/-- Settles O20: each round ages one history and gives one edge, and no other round touches them (R109). -/
theorem evalComparesAndShiftsEveryKey : Obligations.EvalComparesAndShiftsEveryKey := by
  refine fun s => ⟨evalKeys s, rfl, evalKeys_frame s, fun hs => ⟨sized_kept.evalKeys hs, fun k hk => ?_⟩⟩
  exact (filterAt_eq_iff.1 (filterAt_evalKeys hs hk)).symm

/-- Settles O21: the dispatch of a key commutes with the comparisons of all others (R109). -/
theorem interleavedDispatchAgrees : Obligations.InterleavedDispatchAgrees := fun s =>
  dispatchKeys_foldl_evalKey (keys_nodup s) s

/-- Settles O46: the samples come in, the filter ages, and the phases after it write no history (R100, R111). -/
theorem scanAgesEveryHistory : Obligations.ScanAgesEveryHistory := by
  intro s m ms hs hslots hm hlen
  obtain ⟨u, hu⟩ := exists_dispatchPhase hslots
  have hscan := runScan_of_dispatchPhase hu
  exact ⟨_, hscan, sized_kept.runScan hscan hs, fun k hk => (runScan_key hscan hs hm hlen hk).1⟩

/-- Settles O47: the DISPATCH loop puts the effect of each key's edge into its flag (R116). -/
theorem scanPressedFollowsPatterns : Obligations.ScanPressedFollowsPatterns := by
  intro s m ms hs hslots hm hlen
  obtain ⟨u, hu⟩ := exists_dispatchPhase hslots
  have hscan := runScan_of_dispatchPhase hu
  exact ⟨_, hscan, fun k hk => (runScan_key hscan hs hm hlen hk).2⟩

/-- Settles O58: the LEDs come from the lock byte and from registers that phases 1 to 3 leave alone (R141, R145). -/
theorem samplesDoNotReachLeds : Obligations.SamplesDoNotReachLeds := by
  intro s m m' ms l ls hslots hlocks
  obtain ⟨u, hu⟩ := exists_dispatchPhase (s := { s with snapshots := m :: ms }) hslots
  obtain ⟨u', hu'⟩ := exists_dispatchPhase (s := { s with snapshots := m' :: ms }) hslots
  have hscan := runScan_of_dispatchPhase hu
  have hscan' := runScan_of_dispatchPhase hu'
  obtain ⟨hgs, hout⟩ := runScan_leds hscan hlocks
  obtain ⟨hgs', hout'⟩ := runScan_leds hscan' hlocks
  exact ⟨_, _, hscan, hscan', hgs'.trans hgs.symm, hout'.trans hout.symm⟩

/-- Settles O59: seven highs after a low one are the press pattern, and six are not (R112). -/
theorem pressInSeventhHighScan : Obligations.PressInSeventhHighScan := by
  intro s k ms es hs hk hflag hlast hevents hlen hms hsamples
  exact (awaits_of_last_sample (b := true) hs hk hflag hlast hevents hlen hms hsamples).confirmed_in_seventh

/-- Settles O60: seven lows after a high one are the release pattern, and six are not (R113). -/
theorem releaseInSeventhLowScan : Obligations.ReleaseInSeventhLowScan := by
  intro s k ms es hs hk hflag hlast hevents hlen hms hsamples
  exact (awaits_of_last_sample (b := false) hs hk hflag hlast hevents hlen hms hsamples).confirmed_in_seventh

end Sys2Proof.Proofs
end

section
/-! Proofs about the dispatcher operations, the rollover queue under each overflow policy, and the reports of a scan
(R23, R121 to R132). -/

namespace Sys2Proof.Machine

/-! ### The slots of the queue (R23, R123, R124, R126) -/

/-- R14, R23: the slots are the reported ones and the spare slot behind them. -/
theorem slots_eq_reported_append (q : Queue) : q.slots = q.reported ++ [q.q6] := rfl

theorem slots_injective : Function.Injective Queue.slots := by
  rintro ⟨⟩ ⟨⟩ h
  simpa [Queue.slots] using h

/-- A reported slot is a slot. -/
theorem mem_slots_of_mem_reported {q : Queue} {v : Slot} (h : v ∈ q.reported) : v ∈ q.slots :=
  List.mem_append_left [q.q6] h

/-- R126: the search ends before the spare slot exactly if a reported slot holds the key. -/
theorem search_lt_iff (q : Queue) (k : Slot) : q.search k < 6 ↔ k ∈ q.reported := by
  simp only [Queue.search, Queue.reported, List.mem_cons, List.not_mem_nil, or_false, eq_comm (a := k)]
  split_ifs <;> simp_all

/-- R126: the removal from the reported slots erases the key and lets the spare slot in at the back. -/
theorem reported_compactFrom_search {q : Queue} {k : Slot} (h : k ∈ q.reported) :
    (q.compactFrom (q.search k)).reported = q.reported.erase k ++ [q.q6] := by
  have hslots := slots_compactFrom_search q k
  rw [if_pos h, slots_eq_reported_append, slots_eq_reported_append, List.erase_append_left _ h] at hslots
  exact (List.append_inj' hslots rfl).1

/-- R127: the removal of a key in no reported slot leaves the queue as it is. -/
theorem compactFrom_search_of_not_mem {q : Queue} {k : Slot} (h : k ∉ q.reported) :
    q.compactFrom (q.search k) = q :=
  slots_injective (by rw [slots_compactFrom_search, if_neg h])

/-- R126: the removal of the first reported slot that holds the key, in terms of the slots around it. -/
theorem slots_compactFrom_search_of_split {q : Queue} {k : Slot} {front back : List Slot}
    (hq : q.reported = front ++ k :: back) (hk : k ∉ front) :
    (q.compactFrom (q.search k)).slots = front ++ back ++ [q.q6, q.q6] := by
  have hmem : k ∈ q.reported := by simp [hq]
  have hspare : (q.compactFrom (q.search k)).q6 = q.q6 := rfl
  rw [slots_eq_reported_append, reported_compactFrom_search hmem, hq, List.erase_append_right _ hk,
    List.erase_cons_head, hspare, List.append_assoc, List.singleton_append]

/-- R124, R126: the parking policy alone changes the removal. -/
theorem remove_of_ne_parkInSpare {policy : OverflowPolicy} (h : policy ≠ .parkInSpare) (q : Queue) (k : Slot) :
    q.remove policy k = q.compactFrom (q.search k) := by
  cases policy with
  | evictOldest => rfl
  | rejectNewest => rfl
  | parkInSpare => exact absurd rfl h

/-- R124: the removal of the parking policy erases the first of the seven slots that holds the key and empties the
last. -/
theorem slots_removeParking (q : Queue) (k : Slot) :
    (q.removeParking k).slots = if k ∈ q.slots then q.slots.erase k ++ [0xFF#8] else q.slots := by
  have hspare (p : Queue) : { p with q6 := emptySlot }.slots = p.reported ++ [0xFF#8] := rfl
  rw [Queue.removeParking]
  by_cases hrep : k ∈ q.reported
  · rw [if_pos ((search_lt_iff q k).2 hrep), if_pos (mem_slots_of_mem_reported hrep), hspare,
      reported_compactFrom_search hrep, slots_eq_reported_append, List.erase_append_left _ hrep]
  · rw [if_neg (mt (search_lt_iff q k).1 hrep)]
    by_cases hk : q.q6 = k
    · have hmem : k ∈ q.slots := List.mem_append_right q.reported (List.mem_singleton.2 hk.symm)
      rw [if_pos hk, if_pos hmem, hspare, slots_eq_reported_append, List.erase_append_right _ hrep, hk,
        List.erase_cons_head, List.append_nil]
    · have hmem : k ∉ q.slots := by
        simpa [slots_eq_reported_append, hrep] using Ne.symm hk
      rw [if_neg hk, if_neg hmem]

/-! ### All that a dispatcher operation does (R122 to R127) -/

/-- The state in which key k has gone down or up, with the queue and the mask this leaves, and the report is sent. -/
def State.afterKeyEvent (s : State) (k : KeyIndex) (down : Bool) (q : Queue) (m : Byte) : State :=
  { s with
    pressed := s.pressed.set k.toNat down
    q := q
    modMask := m
    trace := .report (shownReport s.cfg q m) :: s.trace }

section
variable {s : State} {k : KeyIndex}

/-- R128: with valid slots the report shows the queue and the mask. -/
theorem sendReport_eq_shownReport (hs : s.SlotsValid) :
    sendReport s = .next (s.emit (.report (shownReport s.cfg s.q s.modMask))) :=
  sendReport_of_report (buildReport?_of_valid (fun v hv => hs v (mem_slots_of_mem_reported hv)) s.modMask)

section
variable {e : LayoutEntry} (he : s.cfg.entry? k = some e) (hm : e.isModifier = true) (hs : s.SlotsValid)
include he hm hs

theorem exec_kevPressMod :
    exec (.kevPressMod k) s = .next (s.afterKeyEvent k true s.q (s.modMask ||| e.code)) :=
  (onKeyOfKind_of_entry he hm fun e t => pressModifier k e t).trans
    (sendReport_eq_shownReport (s := { s.setPressed k true with modMask := s.modMask ||| e.code }) hs)

theorem exec_kevReleaseMod :
    exec (.kevReleaseMod k) s = .next (s.afterKeyEvent k false s.q (s.modMask &&& ~~~e.code)) :=
  (onKeyOfKind_of_entry he hm fun e t => releaseModifier k e t).trans
    (sendReport_eq_shownReport (s := { s.setPressed k false with modMask := s.modMask &&& ~~~e.code }) hs)

end

section
variable (hk : s.cfg.keyOfKind k false = true) (hs : s.SlotsValid)
include hk hs

theorem exec_kevPressKey :
    exec (.kevPressKey k) s =
      .next (s.afterKeyEvent k true (s.q.insert s.cfg.overflowPolicy k) s.modMask) := by
  obtain ⟨e, he, hm⟩ := (keyOfKind_iff _ _ _).1 hk
  have hvalid : { s.setPressed k true with q := s.q.insert s.cfg.overflowPolicy k }.SlotsValid := by
    intro v hv
    rcases mem_slots_insert hv with rfl | hv
    · exact .inr (lt_of_entry? he :)
    · exact hs v hv
  exact (onKeyOfKind_of_entry he hm fun _ t => pressKey k t).trans (sendReport_eq_shownReport hvalid)

theorem exec_kevReleaseKey :
    exec (.kevReleaseKey k) s =
      .next (s.afterKeyEvent k false (s.q.remove s.cfg.overflowPolicy k) s.modMask) := by
  obtain ⟨e, he, hm⟩ := (keyOfKind_iff _ _ _).1 hk
  have hvalid : { s.setPressed k false with q := s.q.remove s.cfg.overflowPolicy k }.SlotsValid := fun v hv =>
    (mem_slots_remove hv).elim .inl (hs v)
  exact (onKeyOfKind_of_entry he hm fun _ t => releaseKey k t).trans (sendReport_eq_shownReport hvalid)

/-- R123: a press under EVICT_OLDEST shifts the queue to the back, and another operation can follow. -/
theorem exists_exec_kevPressKey (hpolicy : s.cfg.overflowPolicy = .evictOldest) :
    ∃ t, exec (.kevPressKey k) s = .next t ∧ t.q = s.q.pushFront k ∧ t.cfg = s.cfg ∧ t.SlotsValid := by
  have hexec := exec_kevPressKey hk hs
  rw [hpolicy] at hexec
  exact ⟨_, hexec, rfl, rfl, slotsValid_kept.exec hexec nofun hs⟩

/-- R126: a release under EVICT_OLDEST takes the key out of the queue, and another operation can follow. -/
theorem exists_exec_kevReleaseKey (hpolicy : s.cfg.overflowPolicy = .evictOldest) :
    ∃ t, exec (.kevReleaseKey k) s = .next t ∧ t.q = s.q.compactFrom (s.q.search k) ∧ t.cfg = s.cfg ∧
      t.SlotsValid := by
  have hexec := exec_kevReleaseKey hk hs
  rw [hpolicy] at hexec
  exact ⟨_, hexec, rfl, rfl, slotsValid_kept.exec hexec nofun hs⟩

end

end

/-! ### A sequence of key events, and a full queue (R131, R132) -/

/-- R132: two insertions into an empty queue, the removal of the older key and one more insertion. -/
theorem slots_pushFront_after_removal {a b : Slot} (hab : a ≠ b) (c : Slot) :
    ((((Queue.empty.pushFront a).pushFront b).compactFrom
      (((Queue.empty.pushFront a).pushFront b).search a)).pushFront c).slots =
      [c, b, 0xFF#8, 0xFF#8, 0xFF#8, 0xFF#8, 0xFF#8] := by
  have hremoved := slots_compactFrom_search_of_split (q := (Queue.empty.pushFront a).pushFront b) (k := a)
    (front := [b]) (back := List.replicate 4 0xFF#8) rfl (by simpa using hab)
  rw [slots_pushFront, hremoved]
  rfl

/-- R38, R40: in an orderly queue whose last reported slot is taken, all six are live: pressed keys, no two alike. -/
theorem reported_of_queueOk_full {s : State} (hs : s.QueueOk) (hfull : s.q.q5 ≠ 0xFF#8) :
    s.q.reported.Nodup ∧ s.q.q6 = 0xFF#8 ∧ ∀ v ∈ s.q.reported, s.pressedAt v = true := by
  obtain ⟨live, hlen, hnodup, hslots, hlive⟩ := hs
  have hlen6 : live.length = 6 := by
    by_contra hne
    have h5 : s.q.slots[5]? = some s.q.q5 := rfl
    rw [hslots, List.getElem?_append_right (by omega), List.getElem?_replicate, if_pos (by omega)] at h5
    exact hfull (Option.some.inj h5).symm
  have hrep : s.q.reported = live := by
    rw [slots_eq_reported_append] at hslots
    exact (List.append_inj hslots hlen6.symm).1
  rw [hrep]
  exact ⟨hnodup, spare_eq_empty hlen hslots, fun v hv => (hlive v hv).2⟩

/-! ### The reports of a scan (R121, R129, R169) -/

/-- R18 (a): a report comes last in the report trace. -/
theorem reports_emit_report (s : State) (r : Report) : (s.emit (.report r)).reports = s.reports ++ [r] := by
  simp [State.reports]

/-- R121: is an edge of key k pending? -/
def State.hasEdge (s : State) (k : KeyIndex) : Bool := decide (s.edgeAt k ≠ .none)

section
variable {s t : State}

/-- R121: a round of the DISPATCH loop sends one report if its key has an edge, and none if it has not. -/
theorem reports_length_dispatchKey {k : KeyIndex} (h : dispatchKey k s = .next t) :
    t.reports.length = s.reports.length + (s.hasEdge k).toNat := by
  obtain ⟨u, hu, ht⟩ := andThen_eq_next h
  cases ht
  change u.reports.length = _
  rcases dispatchEdge_eq_next hu with ⟨hed, rfl⟩ | ⟨e, down, -, hed, hr⟩
  · simp [State.hasEdge, hed]
  · obtain ⟨r, -, rfl⟩ := sendReport_eq_next hr
    have hedge : s.hasEdge k = true := by
      rw [State.hasEdge, hed]
      cases down <;> rfl
    rw [reports_emit_report, List.length_append, hedge]
    rfl

/-- R121, R129: over keys that differ the DISPATCH loop sends one report per pending edge. -/
theorem reports_length_dispatchKeys {ks : List KeyIndex} (hks : ks.Nodup) (h : dispatchKeys ks s = .next t) :
    t.reports.length = s.reports.length + ks.countP s.hasEdge := by
  induction ks generalizing s with
  | nil =>
    cases h
    rfl
  | cons k ks ih =>
    obtain ⟨hk, hks⟩ := List.nodup_cons.1 hks
    obtain ⟨u, hu, ht⟩ := andThen_eq_next h
    have hother : ks.countP u.hasEdge = ks.countP s.hasEdge := by
      refine List.countP_congr fun j hj => ?_
      rw [State.hasEdge, dispatchKey_edgeAt hu, if_neg (ne_of_mem_of_not_mem hj hk).symm, State.hasEdge]
    rw [ih hks ht, reports_length_dispatchKey hu, hother, List.countP_cons, Nat.add_assoc,
      Nat.add_comm (Bool.toNat _), Bool.toNat, Bool.cond_eq_ite]

/-- R129: the DISPATCH phase sends one report per pending edge. -/
theorem reports_length_dispatchPhase (h : dispatchPhase s = .next t) :
    t.reports.length = s.reports.length + s.keys.countP s.hasEdge :=
  (reports_length_dispatchKeys (keys_nodup s) h :)

end

/-- R169: the phases 1 and 2 send no report. -/
theorem sampleAndFilter_reports (s : State) : (sampleAndFilter s).reports = s.reports := by
  obtain ⟨hist, draws, -, h⟩ := snapshotMatrix_frame (enterHandler s)
  refine reports_of_trace_append (os := (snapshotOutputs s.cfg).reverse) ?_ fun o ho =>
    isReport_of_mem_snapshotOutputs (List.mem_reverse.1 ho)
  rw [sampleAndFilter, evalKeys_frame, h]
  rfl

end Sys2Proof.Machine

namespace Sys2Proof.Proofs

open Sys2Proof.Machine

/-- Settles O22: the operation is known as a whole, and a modifier leaves the queue alone (R122). -/
theorem pressModifierOrsCode : Obligations.PressModifierOrsCode := fun _ _ _ => exec_kevPressMod

/-- Settles O23: under EVICT_OLDEST the insertion is a shift to the back that leaves the spare slot (R123). -/
theorem pressKeyInsertsAtFront : Obligations.PressKeyInsertsAtFront := by
  intro s k hk hpolicy hs
  rw [exec_kevPressKey hk hs, hpolicy]
  rfl

/-- Settles O24: the operation is known as a whole, and a modifier leaves the queue alone (R125). -/
theorem releaseModifierClearsCode : Obligations.ReleaseModifierClearsCode := fun _ _ _ => exec_kevReleaseMod

/-- Settles O25: the removal is a search and a shift to the front, which does nothing for an absent key. -/
theorem releaseKeyRemovesAndCompacts : Obligations.ReleaseKeyRemovesAndCompacts := by
  intro s k hk hpolicy hs
  have hexec := exec_kevReleaseKey hk hs
  rw [remove_of_ne_parkInSpare hpolicy] at hexec
  refine ⟨fun front back hq hfront => ⟨_, slots_compactFrom_search_of_split hq hfront, hexec⟩, fun habsent => ?_⟩
  rw [compactFrom_search_of_not_mem habsent] at hexec
  exact hexec

/-- Settles O26: the insertion of REJECT_NEWEST asks whether the last reported slot is empty (R124). -/
theorem rejectNewestPress : Obligations.RejectNewestPress := by
  intro s k hk hpolicy hs
  have hexec := exec_kevPressKey hk hs
  rw [hpolicy] at hexec
  exact ⟨s.q.insert .rejectNewest k, rfl, hexec⟩

/-- Settles O27: under PARK_IN_SPARE both loops run over all seven slots (R124). -/
theorem parkInSparePressAndRelease : Obligations.ParkInSparePressAndRelease := by
  intro s k hk hpolicy hs
  have hpress := exec_kevPressKey hk hs
  have hrelease := exec_kevReleaseKey hk hs
  rw [hpolicy] at hpress hrelease
  exact ⟨hpress, s.q.removeParking k, slots_removeParking s.q k, hrelease⟩

/-- Settles O31: the four operations complete one after another, and the slots follow from those of the queue. -/
theorem pressReleaseRoundTrip : Obligations.PressReleaseRoundTrip := by
  intro s a b c hpolicy hempty ha hb hc hab
  have hq : s.q = Queue.empty := slots_injective hempty
  have hs : s.SlotsValid := fun v hv => .inl (List.eq_of_mem_replicate (hempty ▸ hv))
  obtain ⟨s₁, h₁, hq₁, hcfg₁, hs₁⟩ := exists_exec_kevPressKey ha hs hpolicy
  rw [← hcfg₁] at hpolicy ha hb hc
  obtain ⟨s₂, h₂, hq₂, hcfg₂, hs₂⟩ := exists_exec_kevPressKey hb hs₁ hpolicy
  rw [← hcfg₂] at hpolicy ha hc
  obtain ⟨s₃, h₃, hq₃, hcfg₃, hs₃⟩ := exists_exec_kevReleaseKey ha hs₂ hpolicy
  rw [← hcfg₃] at hpolicy hc
  obtain ⟨s₄, h₄, hq₄, -, -⟩ := exists_exec_kevPressKey hc hs₃ hpolicy
  refine ⟨s₄, by simp only [h₁, h₂, h₃, h₄, andThen_next], ?_⟩
  rw [hq₄, hq₃, hq₂, hq₁, hq]
  exact slots_pushFront_after_removal hab c

/-- Settles O32: the oldest of six live entries falls out of the queue, where it stood once, and no flag but the new
key's is written (R131). -/
theorem seventhPressEvictsOldest : Obligations.SeventhPressEvictsOldest := by
  intro s k hpolicy hok hfull hk hkind
  obtain ⟨hnodup, hspare, hpressed⟩ := reported_of_queueOk_full hok hfull
  have hold : s.q.q5 ∈ s.q.reported := by simp [Queue.reported]
  have hne : s.q.q5 ≠ k := ne_of_mem_of_not_mem (mem_slots_of_mem_reported hold) hk
  have honce : s.q.q5 ∉ s.q.reported.take 5 := by
    have hsplit : s.q.reported = s.q.reported.take 5 ++ [s.q.q5] := rfl
    rw [hsplit, List.nodup_append_comm] at hnodup
    exact (List.nodup_cons.1 hnodup).1
  have hexec := exec_kevPressKey hkind (slotsValid_of_queueOk hok)
  rw [hpolicy] at hexec
  refine ⟨_, hexec, ?_, (s.pressedAt_setPressed_ne k _ true hne.symm).trans (hpressed _ hold), rfl⟩
  have hslots : (s.q.pushFront k).slots = k :: s.q.reported.take 5 ++ [s.q.q6] := rfl
  change s.q.q5 ∉ (s.q.pushFront k).slots
  rw [hslots, hspare]
  simp [hne, honce, hfull]

/-- Settles O48: the DISPATCH loop sends one report per edge that the filter left, and no other phase sends any. -/
theorem scanSendsOneReportPerEdge : Obligations.ScanSendsOneReportPerEdge := by
  intro s m ms hs hslots hm hlen
  obtain ⟨u, hu⟩ := exists_dispatchPhase hslots
  have hscan := runScan_of_dispatchPhase hu
  refine ⟨_, hscan, ?_⟩
  have hkeys : (sampleAndFilter s).keys = s.keys := by rw [State.keys, sampleAndFilter_cfg, State.keys]
  have hedges : s.keys.countP (sampleAndFilter s).hasEdge =
      s.keys.countP fun k => decide (edgeOf (s.comparedHist m k) (s.pressedAt k) ≠ .none) := by
    refine List.countP_congr fun k hk => ?_
    obtain ⟨-, hedge⟩ := filterAt_eq_iff.1 (filterAt_sampleAndFilter hs hm hlen (mem_keys.1 hk))
    rw [State.hasEdge, hedge]
  calc (ledAndLeave u).reports.length
    _ = u.reports.length := by rw [ledAndLeave_reports]
    _ = (sampleAndFilter s).reports.length + (sampleAndFilter s).keys.countP (sampleAndFilter s).hasEdge :=
      reports_length_dispatchPhase hu
    _ = _ := by rw [sampleAndFilter_reports, hkeys, hedges]

end Sys2Proof.Proofs
end

section
/-! Proofs about the LED Grayscale Driver (R141 to R145, R147, R193), and about the outputs of every operation, none of
which is a write of LED_EN (R146). -/

namespace Sys2Proof.Machine

/-! ### The outputs of a frame, counted and sampled (R147) -/

/-- R83, R144: the outputs of a frame's bits, as those of a list of levels. -/
theorem flatMap_frameBitOutputs (gs : Vector Gray 24) (ps : List Nat) :
    ps.flatMap (frameBitOutputs gs) = (ps.map (frameBitAt gs)).flatMap bitOutputs := by
  rw [List.flatMap_map]
  rfl

/-- R142: every LED.BIT has as many outputs of a kind as any other, if the kind does not ask for the level. -/
theorem countP_flatMap_bitOutputs {f : Output → Bool} {n : Nat} (hf : ∀ v, (bitOutputs v).countP f = n)
    (bits : List Bool) : (bits.flatMap bitOutputs).countP f = bits.length * n := by
  simp [List.countP_flatMap, Function.comp_def, hf]

/-- R147: LED_CLK rises once for every level of LED_DATA that is sampled. -/
theorem rises_ledClk_eq_length_sampledBits (clk data : Bool) (os : List Output) :
    rises .ledClk clk os = (sampledBits clk data os).length := by
  induction os generalizing clk data with
  | nil => rfl
  | cons o os ih =>
    cases o with
    | delay => exact ih clk data
    | report r => exact ih clk data
    | pin p v =>
      cases p with
      | ledClk =>
        simp only [rises, sampledBits, if_true, ih v data]
        split
        · rw [List.length_cons, Nat.add_comm]
        · rw [Nat.zero_add]
      | ledData => exact ih clk v
      | srLoad => exact ih clk data
      | srClk => exact ih clk data
      | ledLatch => exact ih clk data
      | ledEn => exact ih clk data

/-- R142, R147: each LED.BIT samples the level it drives, whatever the levels before it. -/
theorem sampledBits_flatMap_bitOutputs_append {os : List Output} (hos : ∀ clk data, sampledBits clk data os = [])
    (bits : List Bool) (clk data : Bool) : sampledBits clk data (bits.flatMap bitOutputs ++ os) = bits := by
  induction bits generalizing clk data with
  | nil => exact hos clk data
  | cons v bits ih => simp [bitOutputs, sampledBits, ih]

/-- R142: LED.BIT does not write LED_LATCH. -/
theorem rises_ledLatch_flatMap_bitOutputs_append (bits : List Bool) (old : Bool) (os : List Output) :
    rises .ledLatch old (bits.flatMap bitOutputs ++ os) = rises .ledLatch old os := by
  induction bits with
  | nil => rfl
  | cons v bits ih => simpa [bitOutputs, rises] using ih

/-- The outputs of LED.FRAME before its commit (R144). -/
def frameBefore (gs : Vector Gray 24) : List Output :=
  [.pin .ledLatch false, .delay] ++ ((List.range 288).map (frameBitAt gs)).flatMap bitOutputs

/-- The outputs of LED.COMMIT, in order (R143). -/
def commitOutputs : List Output :=
  [.pin .ledClk false, .delay, .pin .ledLatch true, .delay, .pin .ledLatch false]

theorem frameOutputs_eq_append (gs : Vector Gray 24) : frameOutputs gs = frameBefore gs ++ commitOutputs := by
  rw [frameOutputs, flatMap_frameBitOutputs]
  rfl

/-- Counting in the outputs of a frame, one LED.BIT stands for all. -/
theorem countP_frameOutputs {f : Output → Bool} {n : Nat} (hf : ∀ v, (bitOutputs v).countP f = n)
    (gs : Vector Gray 24) :
    (frameOutputs gs).countP f =
      [Output.pin .ledLatch false, .delay].countP f + 288 * n + commitOutputs.countP f := by
  rw [frameOutputs_eq_append, frameBefore, List.countP_append, List.countP_append, countP_flatMap_bitOutputs hf,
    List.length_map, List.length_range]

/-- R147: the levels sampled in a frame, up to its commit or to an end that does not sample, are the frame's bits. -/
theorem sampledBits_frameBefore_append {os : List Output} (hos : ∀ clk data, sampledBits clk data os = [])
    (gs : Vector Gray 24) (clk data : Bool) :
    sampledBits clk data (frameBefore gs ++ os) = (List.range 288).map (frameBitAt gs) :=
  sampledBits_flatMap_bitOutputs_append hos _ clk data

/-- R147: so LED_CLK rises 288 times. -/
theorem rises_ledClk_frameBefore_append {os : List Output} (hos : ∀ clk data, sampledBits clk data os = [])
    (gs : Vector Gray 24) (clk : Bool) : rises .ledClk clk (frameBefore gs ++ os) = 288 := by
  rw [rises_ledClk_eq_length_sampledBits clk false, sampledBits_frameBefore_append hos, List.length_map,
    List.length_range]

/-- R147: LED_LATCH is low when the commit begins, and has not risen. -/
theorem rises_ledLatch_frameBefore_append (gs : Vector Gray 24) (old : Bool) (os : List Output) :
    rises .ledLatch old (frameBefore gs ++ os) = rises .ledLatch false os := by
  have hlow : rises .ledLatch old (frameBefore gs ++ os) =
      0 + rises .ledLatch false (((List.range 288).map (frameBitAt gs)).flatMap bitOutputs ++ os) := by
    simp [frameBefore, rises]
  rw [hlow, Nat.zero_add, rises_ledLatch_flatMap_bitOutputs_append]

/-- R143, R147: the commit samples nothing, since it only drops LED_CLK. -/
theorem sampledBits_commitOutputs (clk data : Bool) : sampledBits clk data commitOutputs = [] := by
  simp [commitOutputs, sampledBits]

/-! ### The outputs of the phases of a scan (R169) -/

theorem updateLeds_trace (s : State) : (updateLeds s).trace = s.trace := by
  rw [updateLeds, lockRead_eq]

/-- R145, R169: phase 4 puts out one frame of the grayscale buffer that it leaves. -/
theorem ledAndLeave_trace (s : State) :
    (ledAndLeave s).trace = (frameOutputs (ledAndLeave s).gs).reverse ++ s.trace := by
  have hgs (u : State) : (sendFrame u).gs = u.gs := read_eq_of_registers State.gs (fun _ => rfl) (sendFrame_registers u)
  have hleave (u : State) : (leaveHandler u).trace = u.trace ∧ (leaveHandler u).gs = u.gs := ⟨rfl, rfl⟩
  rw [ledAndLeave, (hleave _).1, (hleave _).2, ledPhase, hgs, sendFrame_trace, updateLeds_trace, State.setPhase_trace]

theorem snapshotMatrix_trace (s : State) :
    (snapshotMatrix s).trace = (snapshotOutputs s.cfg).reverse ++ s.trace := by
  obtain ⟨hist, draws, -, h⟩ := snapshotMatrix_frame s
  rw [h]

theorem evalKeys_trace (s : State) : (evalKeys s).trace = s.trace := by
  rw [evalKeys_frame]

/-- R103, R109, R169: the phases 1 and 2 put out the sampler's pin trace. -/
theorem sampleAndFilter_trace (s : State) :
    (sampleAndFilter s).trace = (snapshotOutputs s.cfg).reverse ++ s.trace := by
  rw [sampleAndFilter, evalKeys_trace, State.setPhase_trace, snapshotMatrix_trace]
  rfl

/-! ### No operation writes LED_EN (R146) -/

section
variable {s t u : State}

namespace State.AddsNoLedEnWrite

theorem of_trace_eq (h : t.trace = s.trace) : t.AddsNoLedEnWrite s :=
  ⟨[], h, by simp⟩

theorem trans (hut : u.AddsNoLedEnWrite t) (hts : t.AddsNoLedEnWrite s) : u.AddsNoLedEnWrite s := by
  obtain ⟨os, htrace, hos⟩ := hut
  obtain ⟨os', htrace', hos'⟩ := hts
  exact ⟨os ++ os', by rw [htrace, htrace', List.append_assoc], List.forall_mem_append.2 ⟨hos, hos'⟩⟩

/-- Outputs in order stand in the trace in reverse (R18). -/
theorem of_trace_eq_reverse {os : List Output} (h : t.trace = os.reverse ++ s.trace)
    (hos : ∀ o ∈ os, ∀ level, o ≠ .pin .ledEn level) : t.AddsNoLedEnWrite s :=
  ⟨os.reverse, h, fun o ho => hos o (List.mem_reverse.1 ho)⟩

end State.AddsNoLedEnWrite

/-- R101, R102: the sampler's pins are SR_LOAD and SR_CLK. -/
theorem ne_pin_ledEn_of_mem_snapshotOutputs {p : Params} {o : Output} (h : o ∈ snapshotOutputs p) (level : Bool) :
    o ≠ .pin .ledEn level := by
  rintro rfl
  simp [snapshotOutputs, latchOutputs, pulseOutputs] at h

/-- R142 to R144: the pins of a frame are LED_CLK, LED_DATA and LED_LATCH. -/
theorem ne_pin_ledEn_of_mem_frameOutputs {gs : Vector Gray 24} {o : Output} (h : o ∈ frameOutputs gs) (level : Bool) :
    o ≠ .pin .ledEn level := by
  rintro rfl
  simp [frameOutputs, frameBitOutputs] at h

theorem snapshotMatrix_addsNoLedEnWrite (s : State) : (snapshotMatrix s).AddsNoLedEnWrite s :=
  .of_trace_eq_reverse (snapshotMatrix_trace s) fun _ => ne_pin_ledEn_of_mem_snapshotOutputs

theorem sampleAndFilter_addsNoLedEnWrite (s : State) : (sampleAndFilter s).AddsNoLedEnWrite s :=
  .of_trace_eq_reverse (sampleAndFilter_trace s) fun _ => ne_pin_ledEn_of_mem_snapshotOutputs

theorem sendFrame_addsNoLedEnWrite (s : State) : (sendFrame s).AddsNoLedEnWrite s :=
  .of_trace_eq_reverse (sendFrame_trace s) fun _ => ne_pin_ledEn_of_mem_frameOutputs

theorem ledAndLeave_addsNoLedEnWrite (s : State) : (ledAndLeave s).AddsNoLedEnWrite s :=
  .of_trace_eq_reverse (ledAndLeave_trace s) fun _ => ne_pin_ledEn_of_mem_frameOutputs

theorem sendReport_addsNoLedEnWrite (h : sendReport s = .next t) : t.AddsNoLedEnWrite s := by
  obtain ⟨r, -, rfl⟩ := sendReport_eq_next h
  exact ⟨[.report r], rfl, by simp⟩

/-- R121: a round of the DISPATCH loop puts out a report at most. -/
theorem dispatchKey_addsNoLedEnWrite {k : KeyIndex} (h : dispatchKey k s = .next t) : t.AddsNoLedEnWrite s := by
  obtain ⟨u, hu, ht⟩ := andThen_eq_next h
  cases ht
  rcases dispatchEdge_eq_next hu with ⟨-, rfl⟩ | ⟨e, down, -, -, hr⟩
  · exact .of_trace_eq rfl
  · exact (sendReport_addsNoLedEnWrite hr :)

theorem dispatchPhase_addsNoLedEnWrite (h : dispatchPhase s = .next t) : t.AddsNoLedEnWrite s :=
  dispatchKeys_keeps (P := (State.AddsNoLedEnWrite · s)) (fun hk hu => (dispatchKey_addsNoLedEnWrite hk).trans hu) h
    (.of_trace_eq rfl)

theorem runScan_addsNoLedEnWrite (h : runScan s = .next t) : t.AddsNoLedEnWrite s := by
  obtain ⟨u, hu, rfl⟩ := runScan_eq_next h
  exact (ledAndLeave_addsNoLedEnWrite u).trans
    ((dispatchPhase_addsNoLedEnWrite hu).trans (sampleAndFilter_addsNoLedEnWrite s))

/-- An operation that always completes puts out what is new in the state it answers. -/
theorem next_addsNoLedEnWrite (h : (.next u : Result) = .next t) (hu : u.AddsNoLedEnWrite s) : t.AddsNoLedEnWrite s :=
  of_next (P := (State.AddsNoLedEnWrite · s)) h hu

/-- An operation on a key puts out what is new in the state it answers. -/
theorem onKey_next_addsNoLedEnWrite {k : KeyIndex} {f : State → State}
    (h : onKey k s (fun u => .next (f u)) = .next t) (hf : (f s).AddsNoLedEnWrite s) : t.AddsNoLedEnWrite s :=
  next_addsNoLedEnWrite (onKey_eq_next h).2 hf

/-- A dispatcher operation puts out what its meaning does. -/
theorem onKeyOfKind_addsNoLedEnWrite {m : Bool} {k : KeyIndex} {f : LayoutEntry → State → Result}
    (h : onKeyOfKind m k s f = .next t) (hf : ∀ e, f e s = .next t → t.AddsNoLedEnWrite s) :
    t.AddsNoLedEnWrite s := by
  obtain ⟨e, -, -, he⟩ := onKeyOfKind_eq_next h
  exact hf e he

/-- R146: no operation but RESET writes LED_EN. -/
theorem exec_addsNoLedEnWrite {i : Instr} (hi : i ≠ .reset) (h : exec i s = .next t) : t.AddsNoLedEnWrite s := by
  cases i with
  | smpLatch => exact next_addsNoLedEnWrite h ⟨_, congrArg State.trace (latchMatrix_eq s), by simp⟩
  | smpRead k =>
    exact onKey_next_addsNoLedEnWrite (f := (sampleKey · k)) h ⟨_, congrArg State.trace (sampleKey_eq s k), by simp⟩
  | smpSnapshot => exact next_addsNoLedEnWrite h (snapshotMatrix_addsNoLedEnWrite s)
  | dbnPressEdge k => exact onKey_next_addsNoLedEnWrite (f := (·.setEdge k .press)) h (.of_trace_eq rfl)
  | dbnReleaseEdge k => exact onKey_next_addsNoLedEnWrite (f := (·.setEdge k .release)) h (.of_trace_eq rfl)
  | dbnHold k => exact onKey_next_addsNoLedEnWrite (f := (·.setEdge k .none)) h (.of_trace_eq rfl)
  | dbnShift k => exact onKey_next_addsNoLedEnWrite (f := (shiftKey · k)) h (.of_trace_eq rfl)
  | dbnEval => exact next_addsNoLedEnWrite h (.of_trace_eq (evalKeys_trace s))
  | kevPressKey k => exact onKeyOfKind_addsNoLedEnWrite h fun _ hr => (sendReport_addsNoLedEnWrite hr :)
  | kevPressMod k => exact onKeyOfKind_addsNoLedEnWrite h fun _ hr => (sendReport_addsNoLedEnWrite hr :)
  | kevReleaseKey k => exact onKeyOfKind_addsNoLedEnWrite h fun _ hr => (sendReport_addsNoLedEnWrite hr :)
  | kevReleaseMod k => exact onKeyOfKind_addsNoLedEnWrite h fun _ hr => (sendReport_addsNoLedEnWrite hr :)
  | rptSend => exact sendReport_addsNoLedEnWrite h
  | ledUpdate => exact next_addsNoLedEnWrite h (.of_trace_eq (updateLeds_trace s))
  | ledBit c b => exact next_addsNoLedEnWrite h ⟨_, congrArg State.trace (shiftBit_eq s (c, b)), by simp⟩
  | ledCommit => exact next_addsNoLedEnWrite h ⟨_, congrArg State.trace (commitFrame_eq s), by simp⟩
  | ledFrame => exact next_addsNoLedEnWrite h (sendFrame_addsNoLedEnWrite s)
  | tmrFire =>
    rcases execTmrFire_eq_next h with ⟨-, hr⟩ | ⟨-, rfl⟩
    · exact runScan_addsNoLedEnWrite hr
    · exact .of_trace_eq rfl
  | tmrDisable => exact next_addsNoLedEnWrite h (.of_trace_eq rfl)
  | tmrEnable => exact next_addsNoLedEnWrite h (.of_trace_eq rfl)
  | scan => exact runScan_addsNoLedEnWrite h
  | idle => exact next_addsNoLedEnWrite h (.of_trace_eq rfl)
  | reset => exact absurd rfl hi

/-- R146: a step empties the trace, in a RESET, or writes LED_EN nowhere. -/
theorem step_trace_eq_nil_or_addsNoLedEnWrite (h : step s = .next t) : t.trace = [] ∨ t.AddsNoLedEnWrite s := by
  obtain ⟨i, rest, -, hi⟩ := step_eq_next h
  by_cases hreset : i = .reset
  · subst hreset
    exact .inl (of_next (P := fun u => u.trace = []) hi rfl)
  · have hfetch : ((fetch s).2.offer rest).trace = s.trace := (congrArg State.trace (fetch_frame s) :)
    exact .inr ((exec_addsNoLedEnWrite hreset hi).trans (.of_trace_eq hfetch))

end

end Sys2Proof.Machine

namespace Sys2Proof.Proofs

open Sys2Proof.Machine

/-- Settles O33: the lock byte is read once and the three writes name their channels (R141). -/
theorem ledUpdateSetsLockChannels : Obligations.LedUpdateSetsLockChannels := by
  intro s
  have hupdate : updateLeds s =
      { s with
        gs := lockChannels s.gs (s.locks.headD (Config.freeLock s.draws))
        locks := s.locks.tail
        draws := if s.locks = [] then s.draws + 1 else s.draws } := by
    rw [updateLeds, lockRead_eq]
  have hgs := lockChannels_get s.gs (s.locks.headD (Config.freeLock s.draws))
  refine ⟨s.locks.headD (Config.freeLock s.draws), _, fun b bs h => ?_, congrArg Host.Outcome.next hupdate,
    hgs 9, hgs 10, hgs 11, fun c h9 h10 h11 => ?_, rfl⟩
  · rw [h, List.headD_cons]
  · rw [hgs, if_neg h11, if_neg h10, if_neg h9]

/-- Settles O39: the latch drop and the commit leave the bits of the frame in the output register (R193). -/
theorem ledFrameReachesOutputs : Obligations.LedFrameReachesOutputs := by
  intro s
  obtain ⟨trace, h⟩ := sendFrame_frame s
  have hout : (sendFrame s).ledOut = shiftFrame s.gs s.ledSr := by rw [h]
  refine ⟨sendFrame s, rfl, fun c => ?_⟩
  rw [hout, shiftFrame_channel]

/-- Settles O40: the outputs of a frame are a latch drop, one LED.BIT per frame bit and the commit (R147). -/
theorem ledFrameOutputCounts : Obligations.LedFrameOutputCounts := by
  intro s
  have happend := frameOutputs_eq_append s.gs
  refine ⟨sendFrame s, frameBefore s.gs, frameOutputs s.gs, rfl, sendFrame_trace s, ?_, ?_, ?_, ?_, happend, ?_, ?_, ?_⟩
  · exact countP_frameOutputs (n := 3) (fun _ => rfl) s.gs
  · exact countP_frameOutputs (n := 3) (fun _ => rfl) s.gs
  · rw [happend, rises_ledClk_frameBefore_append sampledBits_commitOutputs]
  · rw [happend, rises_ledLatch_frameBefore_append]
    rfl
  · simpa using rises_ledClk_frameBefore_append (os := []) (fun _ _ => rfl) s.gs s.pins.ledClk
  · simpa [rises] using rises_ledLatch_frameBefore_append s.gs s.pins.ledLatch []
  · rw [happend, sampledBits_frameBefore_append sampledBits_commitOutputs]

/-- Settles O51: the operations drive the other five pins alone, and RESET leaves LED_EN asserted with no outputs. -/
theorem stepKeepsLedChainEnabled : Obligations.StepKeepsLedChainEnabled := by
  refine ⟨fun _ => rfl, fun i s t hi h => ⟨?_, exec_addsNoLedEnWrite hi h⟩, fun s t h => ?_, fun s t h => ⟨?_, ?_⟩⟩
  · exact ((enableEventsPort_kept s).exec h (fun hreset => absurd hreset hi) ⟨rfl, rfl, rfl⟩).1
  · exact of_next (P := fun u => u.ChainEnabled ∧ u.trace = []) h ⟨rfl, rfl⟩
  · exact chainEnabled_kept.step h (fun _ _ _ hu => hu) fun _ _ => rfl
  · exact step_trace_eq_nil_or_addsNoLedEnWrite h

/-- Settles O35: LED.BIT as a whole, its bit named as the grayscale word's (R142). -/
theorem ledBitDrivesOneBit : Obligations.LedBitDrivesOneBit := by
  intro s c b
  refine ⟨shiftBit s (c, b), rfl, ?_⟩
  rw [shiftBit_eq]
  rfl

/-- Settles O36: LED.COMMIT as a whole (R143). -/
theorem ledCommitPulsesLatch : Obligations.LedCommitPulsesLatch := by
  intro s
  refine ⟨commitFrame s, rfl, ?_⟩
  rw [commitFrame_eq]

end Sys2Proof.Proofs
end

section
/-! Proofs about the Periodic Scheduler (R162 to R169): the timer, the pipeline of a scan and its outputs in order, and
that from the invariant no step stops (R170, R180). -/

namespace Sys2Proof.Machine

/-! ### A scan as a sequence of operations (R166) -/

/-- R166: with valid slots a scan runs to its end. -/
theorem exists_runScan {s : State} (hs : s.SlotsValid) : ∃ t, runScan s = .next t :=
  let ⟨_, hu⟩ := exists_dispatchPhase hs
  ⟨_, runScan_of_dispatchPhase hu⟩

/-- R162: TMR.FIRE asks for `tmr_en`, and for nothing else. -/
theorem exec_tmrFire (s : State) : exec .tmrFire s = if s.tmrEn then runScan s else .next s := rfl

/-- R166: the phases 1 and 2 are TMR.DISABLE, SMP.SNAPSHOT and DBN.EVAL, and none of the three can stop. -/
theorem andThen_exec_sampleAndFilter (s : State) (f : State → Result) :
    (andThen (exec .tmrDisable s) fun a =>
      andThen (exec .smpSnapshot { a with phase := .sample }) fun b =>
      andThen (exec .dbnEval { b with phase := .filter }) f) = f (sampleAndFilter s) := rfl

/-- R166, R188: phase 4 and the return from the handler are LED.UPDATE, LED.FRAME and TMR.ENABLE, and none of the three can
stop. -/
theorem andThen_exec_ledAndLeave (s : State) :
    (andThen (exec .ledUpdate { s with phase := .led }) fun e =>
      andThen (exec .ledFrame e) fun f => exec .tmrEnable { f with phase := .idle }) = .next (ledAndLeave s) := rfl

/-! ### The outputs of the DISPATCH phase (R169) -/

/-- `t` has the outputs of `s` and after them reports alone (R18). -/
def State.AddsReports (t s : State) : Prop :=
  ∃ rs : List Report, t.trace = (rs.map Output.report).reverse ++ s.trace

section
variable {s t u : State}

theorem State.AddsReports.trans (hut : u.AddsReports t) (hts : t.AddsReports s) : u.AddsReports s := by
  obtain ⟨rs, htrace⟩ := hut
  obtain ⟨rs', htrace'⟩ := hts
  exact ⟨rs' ++ rs, by rw [htrace, htrace', List.map_append, List.reverse_append, List.append_assoc]⟩

/-- R121: a round of the DISPATCH loop puts out nothing, or the report of its key's edge. -/
theorem dispatchKey_addsReports {k : KeyIndex} (h : dispatchKey k s = .next t) : t.AddsReports s := by
  obtain ⟨u, hu, ht⟩ := andThen_eq_next h
  cases ht
  rcases dispatchEdge_eq_next hu with ⟨-, rfl⟩ | ⟨e, down, -, -, hr⟩
  · exact ⟨[], rfl⟩
  · obtain ⟨r, -, rfl⟩ := sendReport_eq_next hr
    exact ⟨[r], rfl⟩

/-- R121, R169: the DISPATCH phase puts out reports alone. -/
theorem dispatchPhase_addsReports (h : dispatchPhase s = .next t) : t.AddsReports s :=
  dispatchKeys_keeps (P := (State.AddsReports · s)) (fun hk hu => (dispatchKey_addsReports hk).trans hu) h ⟨[], rfl⟩

end

end Sys2Proof.Machine

namespace Sys2Proof.Proofs

open Sys2Proof.Machine

/-- Settles O43: TMR.FIRE is a choice by `tmr_en` between the scan and nothing (R162, R165). -/
theorem fireRunsScanWhenEnabled : Obligations.FireRunsScanWhenEnabled := by
  have hfire (s : State) (h : s.tmrEn = true) : exec .tmrFire s = runScan s := by rw [exec_tmrFire, if_pos h]
  refine ⟨hfire, fun s h hs => ?_, fun s h => ?_⟩
  · rw [hfire s h]
    exact exists_runScan hs
  · rw [exec_tmrFire, h]
    rfl

/-- Settles O44: the operations before the DISPATCH loop and those after it are two phases that always complete (R166). -/
theorem scanIsThePipeline : Obligations.ScanIsThePipeline := by
  refine fun s => ⟨exists_runScan, ?_⟩
  rw [andThen_exec_sampleAndFilter]
  simp only [andThen_exec_ledAndLeave]
  rfl

/-- Settles O49: the DISPATCH phase puts out reports alone, the phases around it pins and delays (R169). -/
theorem scanOutputsInOrder : Obligations.ScanOutputsInOrder := by
  intro s hs
  obtain ⟨u, hu⟩ := exists_dispatchPhase hs
  obtain ⟨rs, hreports⟩ := dispatchPhase_addsReports hu
  refine ⟨ledAndLeave u, snapshotOutputs s.cfg, rs.map Output.report, frameOutputs (ledAndLeave u).gs, ?_, ?_,
    fun _ => isReport_of_mem_snapshotOutputs, pinWrites_snapshotOutputs s.cfg, ?_, ?_⟩
  · rw [exec_scan, runScan_of_dispatchPhase hu]
  · rw [ledAndLeave_trace, hreports, sampleAndFilter_trace]
  · exact List.forall_mem_map.2 fun _ _ => rfl
  · rfl

/-- Settles O56: the port is empty, so an event selects the operation: RESET and IDLE always complete, and a scan does
because the queue is orderly (R170, R180). -/
theorem stepNeverStops : Obligations.StepNeverStops := by
  intro s hs
  cases hevents : s.events with
  | nil =>
    rw [ungivenEventIsFree s hs.portEmpty hevents]
    split
    · exact exists_runScan (s := { s with draws := s.draws + 1 }) (slotsValid_of_queueOk hs.queue)
    · exact ⟨_, rfl⟩
  | cons event es =>
    cases event with
    | quiet => exact ⟨_, quietStepChangesNothing s es hs.portEmpty hevents⟩
    | tick =>
      obtain ⟨t, ht, -⟩ := step_of_tick hs hevents
      exact ⟨t, ht⟩
    | reset => exact ⟨_, resetEventRunsReset s es hs.portEmpty hevents⟩

/-- Settles O41: each of the two writes `tmr_en` alone (R163, R164). -/
theorem timerOperationsWriteEnable : Obligations.TimerOperationsWriteEnable := fun _ => ⟨rfl, rfl⟩

/-- Settles O42: IDLE answers the state it is given (R168). -/
theorem idleChangesNothing : Obligations.IdleChangesNothing := fun _ => rfl

end Sys2Proof.Proofs
end

section
/-! Proofs about the registers of the LED chain (R193). -/

namespace Sys2Proof.Machine

/-- R193: the bit that comes in stands at bit 0 of the shifted register. -/
theorem shiftIn_eq_or_ite (w : ChainWord) (b : Bool) :
    shiftIn w b = ((w <<< 1) ||| (if b = true then 1#288 else 0#288)) := by
  cases b <;> simp [shiftIn]

@[simp] theorem shiftBit_ledSr (s : State) (cb : Fin 24 × Fin 12) :
    (shiftBit s cb).ledSr = shiftIn s.ledSr (frameBit s.gs cb.1 cb.2) := by rw [shiftBit_eq]

@[simp] theorem shiftBit_ledOut (s : State) (cb : Fin 24 × Fin 12) : (shiftBit s cb).ledOut = s.ledOut := by
  rw [shiftBit_eq]

@[simp] theorem commitFrame_ledSr (s : State) : (commitFrame s).ledSr = s.ledSr := by rw [commitFrame_eq]

@[simp] theorem commitFrame_ledOut (s : State) :
    (commitFrame s).ledOut = if s.pins.ledLatch = true then s.ledOut else s.ledSr := by rw [commitFrame_eq]

end Sys2Proof.Machine

namespace Sys2Proof.Proofs

open Sys2Proof.Machine

/-- Settles O37: LED_CLK rises once in LED.BIT, after LED_DATA is driven, and LED_LATCH rises in LED.COMMIT only if it was
low (R193). -/
theorem ledChainFollowsPins : Obligations.LedChainFollowsPins := by
  intro s
  refine ⟨fun c b => ⟨shiftBit s (c, b), rfl, ?_, shiftBit_ledOut s (c, b)⟩,
    commitFrame s, rfl, commitFrame_ledOut s, commitFrame_ledSr s⟩
  rw [shiftBit_ledSr, shiftIn_eq_or_ite]
  rfl

end Sys2Proof.Proofs
end

section
/-! Proofs about reset (R200, R201): the state after reset and what the operation RESET makes of any state. -/

namespace Sys2Proof.Machine

/-! ### The values of the reset rule (R200) -/

/-- R200: every register after reset, one field per clause of the rule. -/
theorem isStart_resetWith (p : Params) : (State.resetWith p).IsStart where
  hist := rfl
  pressed := rfl
  edge := rfl
  slots := rfl
  modMask := rfl
  gs _ := Vector.getElem_replicate _
  phase := rfl
  ledEn := rfl
  timer := rfl
  reports := rfl
  pinTrace := rfl

/-- R200, R201: RESET gives the start values of the state's own board. What it draws (five pins, the LED chain) and what it
leaves (chain, inputs, port) is no part of them. -/
theorem isStart_resetCore (s : State) : (resetCore s).IsStart :=
  { isStart_resetWith s.cfg with }

end Sys2Proof.Machine

namespace Sys2Proof.Proofs

open Sys2Proof.Machine

/-- Settles O11: the start values hold of every board's state after reset, and the CORE's own board is one of them. -/
theorem resetStateIsStart : Obligations.ResetStateIsStart :=
  ⟨fun p => ⟨rfl, isStart_resetWith p⟩, rfl⟩

/-- Settles O12: RESET always completes, in `resetCore s`, which writes neither the parameters, the matrix chain, the
inputs to come nor the port. -/
theorem resetOperationGivesStart : Obligations.ResetOperationGivesStart :=
  fun s => ⟨resetCore s, rfl, isStart_resetCore s, rfl, rfl, rfl, rfl, rfl, rfl⟩

end Sys2Proof.Proofs
end
